-- ==== Sys2Proof/Word.lean ====
section
/-! DEFINITION. The word types of the machine (spec/00_scope.md R7, R9). -/

namespace Sys2Proof

/-- `u8`: a register, a memory byte, an operand byte. -/
abbrev Byte := BitVec 8

/-- `u16`: an address, and the program counter. -/
abbrev Addr := BitVec 16

/-- `u64`: the cycle counter (10_state.md R37). -/
abbrev Cycles := BitVec 64

end Sys2Proof
end

