-- ==== Sys2Proof/Syntax.lean ====
section
/-! DEFINITION. The instruction set: the 56 operations, the 13 addressing modes, the 151 instructions
(spec/30_encoding.md R90, R110, R112), and what the decode table says of each. -/

namespace Sys2Proof

/-- The 56 operations (30_encoding.md R112, named by their mnemonics). -/
inductive Op where
  | ADC | SBC | AND | ORA | EOR | BIT | ASL | LSR
  | ROL | ROR | CMP | CPX | CPY | INC | DEC | INX
  | INY | DEX | DEY | LDA | LDX | LDY | STA | STX
  | STY | TAX | TAY | TXA | TYA | TSX | TXS | PHA
  | PLA | PHP | PLP | JMP | JSR | RTS | RTI | BRK
  | BCC | BCS | BEQ | BNE | BMI | BPL | BVC | BVS
  | CLC | SEC | CLI | SEI | CLD | SED | CLV | NOP
  deriving DecidableEq, Repr

/-- The thirteen addressing modes (30_encoding.md R90). -/
inductive Mode where
  | IMP | ACC | IMM | ZP | ZPX | ZPY | ABS | ABX | ABY | IND | IZX | IZY | REL
  deriving DecidableEq, Repr

/-- Operand bytes of a mode (R90). -/
def Mode.operandBytes : Mode → Nat
  | .IMP | .ACC => 0
  | .IMM | .ZP | .ZPX | .ZPY | .IZX | .IZY | .REL => 1
  | .ABS | .ABX | .ABY | .IND => 2

/-- Instruction length of a mode (R86, R90): the opcode byte and the operand bytes. -/
def Mode.length (m : Mode) : Nat := 1 + m.operandBytes

/-- The source document's five modes (R90, R91). -/
inductive DocMode where
  | immediate | zeroPage | absolute | indirect | accumulator
  deriving DecidableEq, Repr

/-- The source document's index registers (R90, R91). -/
inductive DocIndex where
  | noIndex | indexX | indexY
  deriving DecidableEq, Repr

/-- The document's (mode, index) pair of a spec mode; IMP and REL have none (R90). -/
def Mode.docPair : Mode → Option (DocMode × DocIndex)
  | .IMP => none
  | .ACC => some (.accumulator, .noIndex)
  | .IMM => some (.immediate, .noIndex)
  | .ZP => some (.zeroPage, .noIndex)
  | .ZPX => some (.zeroPage, .indexX)
  | .ZPY => some (.zeroPage, .indexY)
  | .ABS => some (.absolute, .noIndex)
  | .ABX => some (.absolute, .indexX)
  | .ABY => some (.absolute, .indexY)
  | .IND => some (.indirect, .noIndex)
  | .IZX => some (.indirect, .indexX)
  | .IZY => some (.indirect, .indexY)
  | .REL => none

/-- The penalty kinds of the decode table (R110). -/
inductive Penalty where
  | none | page | branch
  deriving DecidableEq, Repr

/-- A descriptor of the decode table: operation, mode, base cycle count and penalty kind (R110). -/
structure Desc where
  op : Op
  mode : Mode
  base : Nat
  penalty : Penalty
  deriving DecidableEq, Repr

/-- The instructions: one constructor per row of the opcode table (R112), with the row's operand. A zero-page operand, an
immediate and a branch displacement are bytes; an absolute operand is the 16-bit word its two bytes form (R85). -/
inductive Instr where
  | adcImm (v : Byte)
  | adcZp (zp : Byte)
  | adcZpx (zp : Byte)
  | adcAbs (addr : Addr)
  | adcAbx (base : Addr)
  | adcAby (base : Addr)
  | adcIzx (zp : Byte)
  | adcIzy (zp : Byte)
  | sbcImm (v : Byte)
  | sbcZp (zp : Byte)
  | sbcZpx (zp : Byte)
  | sbcAbs (addr : Addr)
  | sbcAbx (base : Addr)
  | sbcAby (base : Addr)
  | sbcIzx (zp : Byte)
  | sbcIzy (zp : Byte)
  | andImm (v : Byte)
  | andZp (zp : Byte)
  | andZpx (zp : Byte)
  | andAbs (addr : Addr)
  | andAbx (base : Addr)
  | andAby (base : Addr)
  | andIzx (zp : Byte)
  | andIzy (zp : Byte)
  | oraImm (v : Byte)
  | oraZp (zp : Byte)
  | oraZpx (zp : Byte)
  | oraAbs (addr : Addr)
  | oraAbx (base : Addr)
  | oraAby (base : Addr)
  | oraIzx (zp : Byte)
  | oraIzy (zp : Byte)
  | eorImm (v : Byte)
  | eorZp (zp : Byte)
  | eorZpx (zp : Byte)
  | eorAbs (addr : Addr)
  | eorAbx (base : Addr)
  | eorAby (base : Addr)
  | eorIzx (zp : Byte)
  | eorIzy (zp : Byte)
  | bitZp (zp : Byte)
  | bitAbs (addr : Addr)
  | aslAcc
  | aslZp (zp : Byte)
  | aslZpx (zp : Byte)
  | aslAbs (addr : Addr)
  | aslAbx (base : Addr)
  | lsrAcc
  | lsrZp (zp : Byte)
  | lsrZpx (zp : Byte)
  | lsrAbs (addr : Addr)
  | lsrAbx (base : Addr)
  | rolAcc
  | rolZp (zp : Byte)
  | rolZpx (zp : Byte)
  | rolAbs (addr : Addr)
  | rolAbx (base : Addr)
  | rorAcc
  | rorZp (zp : Byte)
  | rorZpx (zp : Byte)
  | rorAbs (addr : Addr)
  | rorAbx (base : Addr)
  | cmpImm (v : Byte)
  | cmpZp (zp : Byte)
  | cmpZpx (zp : Byte)
  | cmpAbs (addr : Addr)
  | cmpAbx (base : Addr)
  | cmpAby (base : Addr)
  | cmpIzx (zp : Byte)
  | cmpIzy (zp : Byte)
  | cpxImm (v : Byte)
  | cpxZp (zp : Byte)
  | cpxAbs (addr : Addr)
  | cpyImm (v : Byte)
  | cpyZp (zp : Byte)
  | cpyAbs (addr : Addr)
  | incZp (zp : Byte)
  | incZpx (zp : Byte)
  | incAbs (addr : Addr)
  | incAbx (base : Addr)
  | decZp (zp : Byte)
  | decZpx (zp : Byte)
  | decAbs (addr : Addr)
  | decAbx (base : Addr)
  | inx
  | iny
  | dex
  | dey
  | ldaImm (v : Byte)
  | ldaZp (zp : Byte)
  | ldaZpx (zp : Byte)
  | ldaAbs (addr : Addr)
  | ldaAbx (base : Addr)
  | ldaAby (base : Addr)
  | ldaIzx (zp : Byte)
  | ldaIzy (zp : Byte)
  | ldxImm (v : Byte)
  | ldxZp (zp : Byte)
  | ldxZpy (zp : Byte)
  | ldxAbs (addr : Addr)
  | ldxAby (base : Addr)
  | ldyImm (v : Byte)
  | ldyZp (zp : Byte)
  | ldyZpx (zp : Byte)
  | ldyAbs (addr : Addr)
  | ldyAbx (base : Addr)
  | staZp (zp : Byte)
  | staZpx (zp : Byte)
  | staAbs (addr : Addr)
  | staAbx (base : Addr)
  | staAby (base : Addr)
  | staIzx (zp : Byte)
  | staIzy (zp : Byte)
  | stxZp (zp : Byte)
  | stxZpy (zp : Byte)
  | stxAbs (addr : Addr)
  | styZp (zp : Byte)
  | styZpx (zp : Byte)
  | styAbs (addr : Addr)
  | tax
  | tay
  | txa
  | tya
  | tsx
  | txs
  | pha
  | pla
  | php
  | plp
  | jmpAbs (target : Addr)
  | jmpInd (ptr : Addr)
  | jsr (target : Addr)
  | rts
  | rti
  | brk
  | bcc (disp : Byte)
  | bcs (disp : Byte)
  | beq (disp : Byte)
  | bne (disp : Byte)
  | bmi (disp : Byte)
  | bpl (disp : Byte)
  | bvc (disp : Byte)
  | bvs (disp : Byte)
  | clc
  | sec
  | cli
  | sei
  | cld
  | sed
  | clv
  | nop
  deriving DecidableEq, Repr

/-- The operation and the addressing mode of an instruction: the pairing its rule gives (40_arithmetic.md to
49_branch_flags_nop.md, the "Operands" line). -/
def Instr.form : Instr → Op × Mode
  | .adcImm _ => (.ADC, .IMM)
  | .adcZp _ => (.ADC, .ZP)
  | .adcZpx _ => (.ADC, .ZPX)
  | .adcAbs _ => (.ADC, .ABS)
  | .adcAbx _ => (.ADC, .ABX)
  | .adcAby _ => (.ADC, .ABY)
  | .adcIzx _ => (.ADC, .IZX)
  | .adcIzy _ => (.ADC, .IZY)
  | .sbcImm _ => (.SBC, .IMM)
  | .sbcZp _ => (.SBC, .ZP)
  | .sbcZpx _ => (.SBC, .ZPX)
  | .sbcAbs _ => (.SBC, .ABS)
  | .sbcAbx _ => (.SBC, .ABX)
  | .sbcAby _ => (.SBC, .ABY)
  | .sbcIzx _ => (.SBC, .IZX)
  | .sbcIzy _ => (.SBC, .IZY)
  | .andImm _ => (.AND, .IMM)
  | .andZp _ => (.AND, .ZP)
  | .andZpx _ => (.AND, .ZPX)
  | .andAbs _ => (.AND, .ABS)
  | .andAbx _ => (.AND, .ABX)
  | .andAby _ => (.AND, .ABY)
  | .andIzx _ => (.AND, .IZX)
  | .andIzy _ => (.AND, .IZY)
  | .oraImm _ => (.ORA, .IMM)
  | .oraZp _ => (.ORA, .ZP)
  | .oraZpx _ => (.ORA, .ZPX)
  | .oraAbs _ => (.ORA, .ABS)
  | .oraAbx _ => (.ORA, .ABX)
  | .oraAby _ => (.ORA, .ABY)
  | .oraIzx _ => (.ORA, .IZX)
  | .oraIzy _ => (.ORA, .IZY)
  | .eorImm _ => (.EOR, .IMM)
  | .eorZp _ => (.EOR, .ZP)
  | .eorZpx _ => (.EOR, .ZPX)
  | .eorAbs _ => (.EOR, .ABS)
  | .eorAbx _ => (.EOR, .ABX)
  | .eorAby _ => (.EOR, .ABY)
  | .eorIzx _ => (.EOR, .IZX)
  | .eorIzy _ => (.EOR, .IZY)
  | .bitZp _ => (.BIT, .ZP)
  | .bitAbs _ => (.BIT, .ABS)
  | .aslAcc => (.ASL, .ACC)
  | .aslZp _ => (.ASL, .ZP)
  | .aslZpx _ => (.ASL, .ZPX)
  | .aslAbs _ => (.ASL, .ABS)
  | .aslAbx _ => (.ASL, .ABX)
  | .lsrAcc => (.LSR, .ACC)
  | .lsrZp _ => (.LSR, .ZP)
  | .lsrZpx _ => (.LSR, .ZPX)
  | .lsrAbs _ => (.LSR, .ABS)
  | .lsrAbx _ => (.LSR, .ABX)
  | .rolAcc => (.ROL, .ACC)
  | .rolZp _ => (.ROL, .ZP)
  | .rolZpx _ => (.ROL, .ZPX)
  | .rolAbs _ => (.ROL, .ABS)
  | .rolAbx _ => (.ROL, .ABX)
  | .rorAcc => (.ROR, .ACC)
  | .rorZp _ => (.ROR, .ZP)
  | .rorZpx _ => (.ROR, .ZPX)
  | .rorAbs _ => (.ROR, .ABS)
  | .rorAbx _ => (.ROR, .ABX)
  | .cmpImm _ => (.CMP, .IMM)
  | .cmpZp _ => (.CMP, .ZP)
  | .cmpZpx _ => (.CMP, .ZPX)
  | .cmpAbs _ => (.CMP, .ABS)
  | .cmpAbx _ => (.CMP, .ABX)
  | .cmpAby _ => (.CMP, .ABY)
  | .cmpIzx _ => (.CMP, .IZX)
  | .cmpIzy _ => (.CMP, .IZY)
  | .cpxImm _ => (.CPX, .IMM)
  | .cpxZp _ => (.CPX, .ZP)
  | .cpxAbs _ => (.CPX, .ABS)
  | .cpyImm _ => (.CPY, .IMM)
  | .cpyZp _ => (.CPY, .ZP)
  | .cpyAbs _ => (.CPY, .ABS)
  | .incZp _ => (.INC, .ZP)
  | .incZpx _ => (.INC, .ZPX)
  | .incAbs _ => (.INC, .ABS)
  | .incAbx _ => (.INC, .ABX)
  | .decZp _ => (.DEC, .ZP)
  | .decZpx _ => (.DEC, .ZPX)
  | .decAbs _ => (.DEC, .ABS)
  | .decAbx _ => (.DEC, .ABX)
  | .inx => (.INX, .IMP)
  | .iny => (.INY, .IMP)
  | .dex => (.DEX, .IMP)
  | .dey => (.DEY, .IMP)
  | .ldaImm _ => (.LDA, .IMM)
  | .ldaZp _ => (.LDA, .ZP)
  | .ldaZpx _ => (.LDA, .ZPX)
  | .ldaAbs _ => (.LDA, .ABS)
  | .ldaAbx _ => (.LDA, .ABX)
  | .ldaAby _ => (.LDA, .ABY)
  | .ldaIzx _ => (.LDA, .IZX)
  | .ldaIzy _ => (.LDA, .IZY)
  | .ldxImm _ => (.LDX, .IMM)
  | .ldxZp _ => (.LDX, .ZP)
  | .ldxZpy _ => (.LDX, .ZPY)
  | .ldxAbs _ => (.LDX, .ABS)
  | .ldxAby _ => (.LDX, .ABY)
  | .ldyImm _ => (.LDY, .IMM)
  | .ldyZp _ => (.LDY, .ZP)
  | .ldyZpx _ => (.LDY, .ZPX)
  | .ldyAbs _ => (.LDY, .ABS)
  | .ldyAbx _ => (.LDY, .ABX)
  | .staZp _ => (.STA, .ZP)
  | .staZpx _ => (.STA, .ZPX)
  | .staAbs _ => (.STA, .ABS)
  | .staAbx _ => (.STA, .ABX)
  | .staAby _ => (.STA, .ABY)
  | .staIzx _ => (.STA, .IZX)
  | .staIzy _ => (.STA, .IZY)
  | .stxZp _ => (.STX, .ZP)
  | .stxZpy _ => (.STX, .ZPY)
  | .stxAbs _ => (.STX, .ABS)
  | .styZp _ => (.STY, .ZP)
  | .styZpx _ => (.STY, .ZPX)
  | .styAbs _ => (.STY, .ABS)
  | .tax => (.TAX, .IMP)
  | .tay => (.TAY, .IMP)
  | .txa => (.TXA, .IMP)
  | .tya => (.TYA, .IMP)
  | .tsx => (.TSX, .IMP)
  | .txs => (.TXS, .IMP)
  | .pha => (.PHA, .IMP)
  | .pla => (.PLA, .IMP)
  | .php => (.PHP, .IMP)
  | .plp => (.PLP, .IMP)
  | .jmpAbs _ => (.JMP, .ABS)
  | .jmpInd _ => (.JMP, .IND)
  | .jsr _ => (.JSR, .ABS)
  | .rts => (.RTS, .IMP)
  | .rti => (.RTI, .IMP)
  | .brk => (.BRK, .IMP)
  | .bcc _ => (.BCC, .REL)
  | .bcs _ => (.BCS, .REL)
  | .beq _ => (.BEQ, .REL)
  | .bne _ => (.BNE, .REL)
  | .bmi _ => (.BMI, .REL)
  | .bpl _ => (.BPL, .REL)
  | .bvc _ => (.BVC, .REL)
  | .bvs _ => (.BVS, .REL)
  | .clc => (.CLC, .IMP)
  | .sec => (.SEC, .IMP)
  | .cli => (.CLI, .IMP)
  | .sei => (.SEI, .IMP)
  | .cld => (.CLD, .IMP)
  | .sed => (.SED, .IMP)
  | .clv => (.CLV, .IMP)
  | .nop => (.NOP, .IMP)

def Instr.op (i : Instr) : Op := i.form.1

def Instr.mode (i : Instr) : Mode := i.form.2

end Sys2Proof
end

