-- ==== Sys2Proof/WellFormed.lean ====
section
/-! DEFINITION. What makes a decode-table descriptor, and an instruction's (operation, mode) pairing, well-formed
(spec/30_encoding.md R91, R105, R106, and the "Operands" line of each instruction rule). -/

namespace Sys2Proof

/-- R91: the pairs (Accumulator, X), (Accumulator, Y), (Immediate, X) and (Immediate, Y) are invalid. -/
def DocMode.indexAllowed : DocMode → DocIndex → Bool
  | .accumulator, .indexX | .accumulator, .indexY | .immediate, .indexX | .immediate, .indexY => false
  | _, _ => true

/-- The resolver has a meaning for this mode: it has no document pair (IMP, REL) or a defined one (R90, R91). -/
def Mode.pairDefined (m : Mode) : Bool :=
  match m.docPair with
  | none => true
  | some (mode, index) => mode.indexAllowed index

/-- The modes each operation takes: the "Operands" line of its rule. -/
def Op.modes : Op → List Mode
  | .ADC | .SBC | .AND | .ORA | .EOR | .CMP | .LDA => [.IMM, .ZP, .ZPX, .ABS, .ABX, .ABY, .IZX, .IZY]
  | .BIT => [.ZP, .ABS]
  | .ASL | .LSR | .ROL | .ROR => [.ACC, .ZP, .ZPX, .ABS, .ABX]
  | .CPX | .CPY => [.IMM, .ZP, .ABS]
  | .INC | .DEC => [.ZP, .ZPX, .ABS, .ABX]
  | .INX | .INY | .DEX | .DEY | .TAX | .TAY | .TXA | .TYA | .TSX | .TXS | .PHA | .PLA | .PHP
  | .PLP | .RTS | .RTI | .BRK | .CLC | .SEC | .CLI | .SEI | .CLD | .SED | .CLV | .NOP => [.IMP]
  | .LDX => [.IMM, .ZP, .ZPY, .ABS, .ABY]
  | .LDY => [.IMM, .ZP, .ZPX, .ABS, .ABX]
  | .STA => [.ZP, .ZPX, .ABS, .ABX, .ABY, .IZX, .IZY]
  | .STX => [.ZP, .ZPY, .ABS]
  | .STY => [.ZP, .ZPX, .ABS]
  | .JMP => [.ABS, .IND]
  | .JSR => [.ABS]
  | .BCC | .BCS | .BEQ | .BNE | .BMI | .BPL | .BVC | .BVS => [.REL]

/-- Read-class operations (R105): one read of the effective address, no write. -/
def Op.readClass : Op → Bool
  | .ADC | .AND | .BIT | .CMP | .CPX | .CPY | .EOR | .LDA | .LDX | .LDY | .ORA | .SBC => true
  | _ => false

/-- Write-class operations (R105): one write of the effective address, no read. -/
def Op.writeClass : Op → Bool
  | .STA | .STX | .STY => true
  | _ => false

/-- Read-modify-write-class operations, in a memory mode (R105). -/
def Op.rmwClass : Op → Bool
  | .ASL | .LSR | .ROL | .ROR | .INC | .DEC => true
  | _ => false

/-- The modes whose index addition may change the high byte of the address (R106). -/
def Mode.mayCross : Mode → Bool
  | .ABX | .ABY | .IZY => true
  | _ => false

/-- The penalty kind the rules give a form: `branch` for REL (R230), `page` for read-class operations in ABX, ABY and IZY
(R106), `none` for the rest. -/
def penaltyOf (op : Op) (m : Mode) : Penalty :=
  if m = .REL then .branch
  else if op.readClass && m.mayCross then .page
  else .none

/-- The (operation, mode) pairing is one the operation's rule lists, and the mode's document pair is defined. -/
def formOk (f : Op × Mode) : Bool := f.2.pairDefined && f.1.modes.contains f.2

def Instr.wf (i : Instr) : Bool := formOk i.form

/-- A descriptor of the decode table is well-formed: its pairing is, it has the penalty kind the rules give it, and it
costs at least the two cycles every instruction of the table costs. -/
def Desc.wf (d : Desc) : Bool :=
  formOk (d.op, d.mode) && decide (d.penalty = penaltyOf d.op d.mode) && decide (2 ≤ d.base)

end Sys2Proof
end

