-- ==== Sys2Proof/Decode.lean ====
section
/-! DEFINITION. The decoder (spec/30_encoding.md R110, R112, R121), total on any bytes and rejecting by name, and the
encoder. -/

namespace Sys2Proof

/-- `hi:lo`, the 16-bit value with high part `hi` (00_scope.md R9). -/
def wordOf (hi lo : Byte) : Addr := hi ++ lo

/-- `lo(w) = w[7:0]` (R9). -/
def loByte (w : Addr) : Byte := w.extractLsb' 0 8

/-- `hi(w) = w[15:8]` (R9). -/
def hiByte (w : Addr) : Byte := w.extractLsb' 8 8

/-- The three instruction formats (R85): the opcode byte alone, with one operand byte, with two (low byte first). -/
inductive Shape where
  | alone (i : Instr)
  | byte (make : Byte → Instr)
  | word (make : Addr → Instr)

/-- One row of the decode table (R112). -/
structure Row where
  opcode : Byte
  desc : Desc
  shape : Shape

/-- A row as R112 writes it: opcode, operation, mode, base cycles, penalty. -/
def row (opcode : Byte) (op : Op) (mode : Mode) (base : Nat) (penalty : Penalty) (shape : Shape) : Row :=
  ⟨opcode, ⟨op, mode, base, penalty⟩, shape⟩

/-- R112, opcodes 0x0x. -/
def rows0 : List Row := [
  row 0x00 .BRK .IMP 7 .none (.alone .brk),
  row 0x01 .ORA .IZX 6 .none (.byte .oraIzx),
  row 0x05 .ORA .ZP 3 .none (.byte .oraZp),
  row 0x06 .ASL .ZP 5 .none (.byte .aslZp),
  row 0x08 .PHP .IMP 3 .none (.alone .php),
  row 0x09 .ORA .IMM 2 .none (.byte .oraImm),
  row 0x0A .ASL .ACC 2 .none (.alone .aslAcc),
  row 0x0D .ORA .ABS 4 .none (.word .oraAbs),
  row 0x0E .ASL .ABS 6 .none (.word .aslAbs)]

/-- R112, opcodes 0x1x. -/
def rows1 : List Row := [
  row 0x10 .BPL .REL 2 .branch (.byte .bpl),
  row 0x11 .ORA .IZY 5 .page (.byte .oraIzy),
  row 0x15 .ORA .ZPX 4 .none (.byte .oraZpx),
  row 0x16 .ASL .ZPX 6 .none (.byte .aslZpx),
  row 0x18 .CLC .IMP 2 .none (.alone .clc),
  row 0x19 .ORA .ABY 4 .page (.word .oraAby),
  row 0x1D .ORA .ABX 4 .page (.word .oraAbx),
  row 0x1E .ASL .ABX 7 .none (.word .aslAbx)]

/-- R112, opcodes 0x2x. -/
def rows2 : List Row := [
  row 0x20 .JSR .ABS 6 .none (.word .jsr),
  row 0x21 .AND .IZX 6 .none (.byte .andIzx),
  row 0x24 .BIT .ZP 3 .none (.byte .bitZp),
  row 0x25 .AND .ZP 3 .none (.byte .andZp),
  row 0x26 .ROL .ZP 5 .none (.byte .rolZp),
  row 0x28 .PLP .IMP 4 .none (.alone .plp),
  row 0x29 .AND .IMM 2 .none (.byte .andImm),
  row 0x2A .ROL .ACC 2 .none (.alone .rolAcc),
  row 0x2C .BIT .ABS 4 .none (.word .bitAbs),
  row 0x2D .AND .ABS 4 .none (.word .andAbs),
  row 0x2E .ROL .ABS 6 .none (.word .rolAbs)]

/-- R112, opcodes 0x3x. -/
def rows3 : List Row := [
  row 0x30 .BMI .REL 2 .branch (.byte .bmi),
  row 0x31 .AND .IZY 5 .page (.byte .andIzy),
  row 0x35 .AND .ZPX 4 .none (.byte .andZpx),
  row 0x36 .ROL .ZPX 6 .none (.byte .rolZpx),
  row 0x38 .SEC .IMP 2 .none (.alone .sec),
  row 0x39 .AND .ABY 4 .page (.word .andAby),
  row 0x3D .AND .ABX 4 .page (.word .andAbx),
  row 0x3E .ROL .ABX 7 .none (.word .rolAbx)]

/-- R112, opcodes 0x4x. -/
def rows4 : List Row := [
  row 0x40 .RTI .IMP 6 .none (.alone .rti),
  row 0x41 .EOR .IZX 6 .none (.byte .eorIzx),
  row 0x45 .EOR .ZP 3 .none (.byte .eorZp),
  row 0x46 .LSR .ZP 5 .none (.byte .lsrZp),
  row 0x48 .PHA .IMP 3 .none (.alone .pha),
  row 0x49 .EOR .IMM 2 .none (.byte .eorImm),
  row 0x4A .LSR .ACC 2 .none (.alone .lsrAcc),
  row 0x4C .JMP .ABS 3 .none (.word .jmpAbs),
  row 0x4D .EOR .ABS 4 .none (.word .eorAbs),
  row 0x4E .LSR .ABS 6 .none (.word .lsrAbs)]

/-- R112, opcodes 0x5x. -/
def rows5 : List Row := [
  row 0x50 .BVC .REL 2 .branch (.byte .bvc),
  row 0x51 .EOR .IZY 5 .page (.byte .eorIzy),
  row 0x55 .EOR .ZPX 4 .none (.byte .eorZpx),
  row 0x56 .LSR .ZPX 6 .none (.byte .lsrZpx),
  row 0x58 .CLI .IMP 2 .none (.alone .cli),
  row 0x59 .EOR .ABY 4 .page (.word .eorAby),
  row 0x5D .EOR .ABX 4 .page (.word .eorAbx),
  row 0x5E .LSR .ABX 7 .none (.word .lsrAbx)]

/-- R112, opcodes 0x6x. -/
def rows6 : List Row := [
  row 0x60 .RTS .IMP 6 .none (.alone .rts),
  row 0x61 .ADC .IZX 6 .none (.byte .adcIzx),
  row 0x65 .ADC .ZP 3 .none (.byte .adcZp),
  row 0x66 .ROR .ZP 5 .none (.byte .rorZp),
  row 0x68 .PLA .IMP 4 .none (.alone .pla),
  row 0x69 .ADC .IMM 2 .none (.byte .adcImm),
  row 0x6A .ROR .ACC 2 .none (.alone .rorAcc),
  row 0x6C .JMP .IND 5 .none (.word .jmpInd),
  row 0x6D .ADC .ABS 4 .none (.word .adcAbs),
  row 0x6E .ROR .ABS 6 .none (.word .rorAbs)]

/-- R112, opcodes 0x7x. -/
def rows7 : List Row := [
  row 0x70 .BVS .REL 2 .branch (.byte .bvs),
  row 0x71 .ADC .IZY 5 .page (.byte .adcIzy),
  row 0x75 .ADC .ZPX 4 .none (.byte .adcZpx),
  row 0x76 .ROR .ZPX 6 .none (.byte .rorZpx),
  row 0x78 .SEI .IMP 2 .none (.alone .sei),
  row 0x79 .ADC .ABY 4 .page (.word .adcAby),
  row 0x7D .ADC .ABX 4 .page (.word .adcAbx),
  row 0x7E .ROR .ABX 7 .none (.word .rorAbx)]

/-- R112, opcodes 0x8x. -/
def rows8 : List Row := [
  row 0x81 .STA .IZX 6 .none (.byte .staIzx),
  row 0x84 .STY .ZP 3 .none (.byte .styZp),
  row 0x85 .STA .ZP 3 .none (.byte .staZp),
  row 0x86 .STX .ZP 3 .none (.byte .stxZp),
  row 0x88 .DEY .IMP 2 .none (.alone .dey),
  row 0x8A .TXA .IMP 2 .none (.alone .txa),
  row 0x8C .STY .ABS 4 .none (.word .styAbs),
  row 0x8D .STA .ABS 4 .none (.word .staAbs),
  row 0x8E .STX .ABS 4 .none (.word .stxAbs)]

/-- R112, opcodes 0x9x. -/
def rows9 : List Row := [
  row 0x90 .BCC .REL 2 .branch (.byte .bcc),
  row 0x91 .STA .IZY 6 .none (.byte .staIzy),
  row 0x94 .STY .ZPX 4 .none (.byte .styZpx),
  row 0x95 .STA .ZPX 4 .none (.byte .staZpx),
  row 0x96 .STX .ZPY 4 .none (.byte .stxZpy),
  row 0x98 .TYA .IMP 2 .none (.alone .tya),
  row 0x99 .STA .ABY 5 .none (.word .staAby),
  row 0x9A .TXS .IMP 2 .none (.alone .txs),
  row 0x9D .STA .ABX 5 .none (.word .staAbx)]

/-- R112, opcodes 0xAx. -/
def rowsA : List Row := [
  row 0xA0 .LDY .IMM 2 .none (.byte .ldyImm),
  row 0xA1 .LDA .IZX 6 .none (.byte .ldaIzx),
  row 0xA2 .LDX .IMM 2 .none (.byte .ldxImm),
  row 0xA4 .LDY .ZP 3 .none (.byte .ldyZp),
  row 0xA5 .LDA .ZP 3 .none (.byte .ldaZp),
  row 0xA6 .LDX .ZP 3 .none (.byte .ldxZp),
  row 0xA8 .TAY .IMP 2 .none (.alone .tay),
  row 0xA9 .LDA .IMM 2 .none (.byte .ldaImm),
  row 0xAA .TAX .IMP 2 .none (.alone .tax),
  row 0xAC .LDY .ABS 4 .none (.word .ldyAbs),
  row 0xAD .LDA .ABS 4 .none (.word .ldaAbs),
  row 0xAE .LDX .ABS 4 .none (.word .ldxAbs)]

/-- R112, opcodes 0xBx. -/
def rowsB : List Row := [
  row 0xB0 .BCS .REL 2 .branch (.byte .bcs),
  row 0xB1 .LDA .IZY 5 .page (.byte .ldaIzy),
  row 0xB4 .LDY .ZPX 4 .none (.byte .ldyZpx),
  row 0xB5 .LDA .ZPX 4 .none (.byte .ldaZpx),
  row 0xB6 .LDX .ZPY 4 .none (.byte .ldxZpy),
  row 0xB8 .CLV .IMP 2 .none (.alone .clv),
  row 0xB9 .LDA .ABY 4 .page (.word .ldaAby),
  row 0xBA .TSX .IMP 2 .none (.alone .tsx),
  row 0xBC .LDY .ABX 4 .page (.word .ldyAbx),
  row 0xBD .LDA .ABX 4 .page (.word .ldaAbx),
  row 0xBE .LDX .ABY 4 .page (.word .ldxAby)]

/-- R112, opcodes 0xCx. -/
def rowsC : List Row := [
  row 0xC0 .CPY .IMM 2 .none (.byte .cpyImm),
  row 0xC1 .CMP .IZX 6 .none (.byte .cmpIzx),
  row 0xC4 .CPY .ZP 3 .none (.byte .cpyZp),
  row 0xC5 .CMP .ZP 3 .none (.byte .cmpZp),
  row 0xC6 .DEC .ZP 5 .none (.byte .decZp),
  row 0xC8 .INY .IMP 2 .none (.alone .iny),
  row 0xC9 .CMP .IMM 2 .none (.byte .cmpImm),
  row 0xCA .DEX .IMP 2 .none (.alone .dex),
  row 0xCC .CPY .ABS 4 .none (.word .cpyAbs),
  row 0xCD .CMP .ABS 4 .none (.word .cmpAbs),
  row 0xCE .DEC .ABS 6 .none (.word .decAbs)]

/-- R112, opcodes 0xDx. -/
def rowsD : List Row := [
  row 0xD0 .BNE .REL 2 .branch (.byte .bne),
  row 0xD1 .CMP .IZY 5 .page (.byte .cmpIzy),
  row 0xD5 .CMP .ZPX 4 .none (.byte .cmpZpx),
  row 0xD6 .DEC .ZPX 6 .none (.byte .decZpx),
  row 0xD8 .CLD .IMP 2 .none (.alone .cld),
  row 0xD9 .CMP .ABY 4 .page (.word .cmpAby),
  row 0xDD .CMP .ABX 4 .page (.word .cmpAbx),
  row 0xDE .DEC .ABX 7 .none (.word .decAbx)]

/-- R112, opcodes 0xEx. -/
def rowsE : List Row := [
  row 0xE0 .CPX .IMM 2 .none (.byte .cpxImm),
  row 0xE1 .SBC .IZX 6 .none (.byte .sbcIzx),
  row 0xE4 .CPX .ZP 3 .none (.byte .cpxZp),
  row 0xE5 .SBC .ZP 3 .none (.byte .sbcZp),
  row 0xE6 .INC .ZP 5 .none (.byte .incZp),
  row 0xE8 .INX .IMP 2 .none (.alone .inx),
  row 0xE9 .SBC .IMM 2 .none (.byte .sbcImm),
  row 0xEA .NOP .IMP 2 .none (.alone .nop),
  row 0xEC .CPX .ABS 4 .none (.word .cpxAbs),
  row 0xED .SBC .ABS 4 .none (.word .sbcAbs),
  row 0xEE .INC .ABS 6 .none (.word .incAbs)]

/-- R112, opcodes 0xFx. -/
def rowsF : List Row := [
  row 0xF0 .BEQ .REL 2 .branch (.byte .beq),
  row 0xF1 .SBC .IZY 5 .page (.byte .sbcIzy),
  row 0xF5 .SBC .ZPX 4 .none (.byte .sbcZpx),
  row 0xF6 .INC .ZPX 6 .none (.byte .incZpx),
  row 0xF8 .SED .IMP 2 .none (.alone .sed),
  row 0xF9 .SBC .ABY 4 .page (.word .sbcAby),
  row 0xFD .SBC .ABX 4 .page (.word .sbcAbx),
  row 0xFE .INC .ABX 7 .none (.word .incAbx)]

/-- The decode table, by the opcode's high nibble as R111 lays it out: the 151 legal opcodes in opcode order (R110, R112). -/
def decodeRows : List (List Row) :=
  [rows0, rows1, rows2, rows3, rows4, rows5, rows6, rows7,
   rows8, rows9, rowsA, rowsB, rowsC, rowsD, rowsE, rowsF]

/-- `DecodeTable[opcode]` (R81, R110): `none` for the 105 bytes with no entry (R121). -/
def rowOf (opcode : Byte) : Option Row :=
  (decodeRows.getD (opcode.toNat / 16) []).find? (fun r => decide (r.opcode = opcode))

/-- Why bytes are not an instruction: an opcode with no entry (R121), or a list that ends inside an instruction, which a
fetch never gives (log entry 8). -/
inductive DecodeError where
  | invalidOpcode (opcode : Byte)
  | truncated
  deriving DecidableEq, Repr

/-- An instruction and the bytes after it, or the reason there is none. -/
inductive Decoded where
  | instr (i : Instr) (rest : List Byte)
  | error (e : DecodeError)
  deriving DecidableEq, Repr

/-- The operand bytes of a format, low byte first (R85, 20_memory.md R54). -/
def Shape.build : Shape → List Byte → Decoded
  | .alone i, rest => .instr i rest
  | .byte make, b :: rest => .instr (make b) rest
  | .word make, lo :: hi :: rest => .instr (make (wordOf hi lo)) rest
  | .byte _, [] => .error .truncated
  | .word _, [] => .error .truncated
  | .word _, [_] => .error .truncated

/-- The decoder: the opcode byte selects the row (R110), the row's format takes the operand bytes. -/
def decode : List Byte → Decoded
  | [] => .error .truncated
  | opcode :: rest =>
    match rowOf opcode with
    | none => .error (.invalidOpcode opcode)
    | some r => r.shape.build rest

/-- The length of the instruction an opcode begins, from the opcode alone (R86); an illegal opcode is one byte, the only one
fetched (R121). -/
def lengthOf (opcode : Byte) : Nat :=
  match rowOf opcode with
  | none => 1
  | some r => r.desc.mode.length

/-- The bytes of an instruction: the "Encoding" line of its rule, operand bytes low byte first. -/
def encode : Instr → List Byte
  | .adcImm v => [0x69, v]
  | .adcZp zp => [0x65, zp]
  | .adcZpx zp => [0x75, zp]
  | .adcAbs addr => [0x6D, loByte addr, hiByte addr]
  | .adcAbx base => [0x7D, loByte base, hiByte base]
  | .adcAby base => [0x79, loByte base, hiByte base]
  | .adcIzx zp => [0x61, zp]
  | .adcIzy zp => [0x71, zp]
  | .sbcImm v => [0xE9, v]
  | .sbcZp zp => [0xE5, zp]
  | .sbcZpx zp => [0xF5, zp]
  | .sbcAbs addr => [0xED, loByte addr, hiByte addr]
  | .sbcAbx base => [0xFD, loByte base, hiByte base]
  | .sbcAby base => [0xF9, loByte base, hiByte base]
  | .sbcIzx zp => [0xE1, zp]
  | .sbcIzy zp => [0xF1, zp]
  | .andImm v => [0x29, v]
  | .andZp zp => [0x25, zp]
  | .andZpx zp => [0x35, zp]
  | .andAbs addr => [0x2D, loByte addr, hiByte addr]
  | .andAbx base => [0x3D, loByte base, hiByte base]
  | .andAby base => [0x39, loByte base, hiByte base]
  | .andIzx zp => [0x21, zp]
  | .andIzy zp => [0x31, zp]
  | .oraImm v => [0x09, v]
  | .oraZp zp => [0x05, zp]
  | .oraZpx zp => [0x15, zp]
  | .oraAbs addr => [0x0D, loByte addr, hiByte addr]
  | .oraAbx base => [0x1D, loByte base, hiByte base]
  | .oraAby base => [0x19, loByte base, hiByte base]
  | .oraIzx zp => [0x01, zp]
  | .oraIzy zp => [0x11, zp]
  | .eorImm v => [0x49, v]
  | .eorZp zp => [0x45, zp]
  | .eorZpx zp => [0x55, zp]
  | .eorAbs addr => [0x4D, loByte addr, hiByte addr]
  | .eorAbx base => [0x5D, loByte base, hiByte base]
  | .eorAby base => [0x59, loByte base, hiByte base]
  | .eorIzx zp => [0x41, zp]
  | .eorIzy zp => [0x51, zp]
  | .bitZp zp => [0x24, zp]
  | .bitAbs addr => [0x2C, loByte addr, hiByte addr]
  | .aslAcc => [0x0A]
  | .aslZp zp => [0x06, zp]
  | .aslZpx zp => [0x16, zp]
  | .aslAbs addr => [0x0E, loByte addr, hiByte addr]
  | .aslAbx base => [0x1E, loByte base, hiByte base]
  | .lsrAcc => [0x4A]
  | .lsrZp zp => [0x46, zp]
  | .lsrZpx zp => [0x56, zp]
  | .lsrAbs addr => [0x4E, loByte addr, hiByte addr]
  | .lsrAbx base => [0x5E, loByte base, hiByte base]
  | .rolAcc => [0x2A]
  | .rolZp zp => [0x26, zp]
  | .rolZpx zp => [0x36, zp]
  | .rolAbs addr => [0x2E, loByte addr, hiByte addr]
  | .rolAbx base => [0x3E, loByte base, hiByte base]
  | .rorAcc => [0x6A]
  | .rorZp zp => [0x66, zp]
  | .rorZpx zp => [0x76, zp]
  | .rorAbs addr => [0x6E, loByte addr, hiByte addr]
  | .rorAbx base => [0x7E, loByte base, hiByte base]
  | .cmpImm v => [0xC9, v]
  | .cmpZp zp => [0xC5, zp]
  | .cmpZpx zp => [0xD5, zp]
  | .cmpAbs addr => [0xCD, loByte addr, hiByte addr]
  | .cmpAbx base => [0xDD, loByte base, hiByte base]
  | .cmpAby base => [0xD9, loByte base, hiByte base]
  | .cmpIzx zp => [0xC1, zp]
  | .cmpIzy zp => [0xD1, zp]
  | .cpxImm v => [0xE0, v]
  | .cpxZp zp => [0xE4, zp]
  | .cpxAbs addr => [0xEC, loByte addr, hiByte addr]
  | .cpyImm v => [0xC0, v]
  | .cpyZp zp => [0xC4, zp]
  | .cpyAbs addr => [0xCC, loByte addr, hiByte addr]
  | .incZp zp => [0xE6, zp]
  | .incZpx zp => [0xF6, zp]
  | .incAbs addr => [0xEE, loByte addr, hiByte addr]
  | .incAbx base => [0xFE, loByte base, hiByte base]
  | .decZp zp => [0xC6, zp]
  | .decZpx zp => [0xD6, zp]
  | .decAbs addr => [0xCE, loByte addr, hiByte addr]
  | .decAbx base => [0xDE, loByte base, hiByte base]
  | .inx => [0xE8]
  | .iny => [0xC8]
  | .dex => [0xCA]
  | .dey => [0x88]
  | .ldaImm v => [0xA9, v]
  | .ldaZp zp => [0xA5, zp]
  | .ldaZpx zp => [0xB5, zp]
  | .ldaAbs addr => [0xAD, loByte addr, hiByte addr]
  | .ldaAbx base => [0xBD, loByte base, hiByte base]
  | .ldaAby base => [0xB9, loByte base, hiByte base]
  | .ldaIzx zp => [0xA1, zp]
  | .ldaIzy zp => [0xB1, zp]
  | .ldxImm v => [0xA2, v]
  | .ldxZp zp => [0xA6, zp]
  | .ldxZpy zp => [0xB6, zp]
  | .ldxAbs addr => [0xAE, loByte addr, hiByte addr]
  | .ldxAby base => [0xBE, loByte base, hiByte base]
  | .ldyImm v => [0xA0, v]
  | .ldyZp zp => [0xA4, zp]
  | .ldyZpx zp => [0xB4, zp]
  | .ldyAbs addr => [0xAC, loByte addr, hiByte addr]
  | .ldyAbx base => [0xBC, loByte base, hiByte base]
  | .staZp zp => [0x85, zp]
  | .staZpx zp => [0x95, zp]
  | .staAbs addr => [0x8D, loByte addr, hiByte addr]
  | .staAbx base => [0x9D, loByte base, hiByte base]
  | .staAby base => [0x99, loByte base, hiByte base]
  | .staIzx zp => [0x81, zp]
  | .staIzy zp => [0x91, zp]
  | .stxZp zp => [0x86, zp]
  | .stxZpy zp => [0x96, zp]
  | .stxAbs addr => [0x8E, loByte addr, hiByte addr]
  | .styZp zp => [0x84, zp]
  | .styZpx zp => [0x94, zp]
  | .styAbs addr => [0x8C, loByte addr, hiByte addr]
  | .tax => [0xAA]
  | .tay => [0xA8]
  | .txa => [0x8A]
  | .tya => [0x98]
  | .tsx => [0xBA]
  | .txs => [0x9A]
  | .pha => [0x48]
  | .pla => [0x68]
  | .php => [0x08]
  | .plp => [0x28]
  | .jmpAbs target => [0x4C, loByte target, hiByte target]
  | .jmpInd ptr => [0x6C, loByte ptr, hiByte ptr]
  | .jsr target => [0x20, loByte target, hiByte target]
  | .rts => [0x60]
  | .rti => [0x40]
  | .brk => [0x00]
  | .bcc disp => [0x90, disp]
  | .bcs disp => [0xB0, disp]
  | .beq disp => [0xF0, disp]
  | .bne disp => [0xD0, disp]
  | .bmi disp => [0x30, disp]
  | .bpl disp => [0x10, disp]
  | .bvc disp => [0x50, disp]
  | .bvs disp => [0x70, disp]
  | .clc => [0x18]
  | .sec => [0x38]
  | .cli => [0x58]
  | .sei => [0x78]
  | .cld => [0xD8]
  | .sed => [0xF8]
  | .clv => [0xB8]
  | .nop => [0xEA]

/-- The three bytes, lowest address first, of an instruction given as a number whose bit 0 is the least significant bit of
the first byte; the bits from `nbits` up are zero. -/
def tableWordBytes (nbits w : Nat) : List Byte :=
  let v := w % 2 ^ nbits
  [BitVec.ofNat 8 v, BitVec.ofNat 8 (v / 2 ^ 8), BitVec.ofNat 8 (v / 2 ^ 16)]

/-- The instruction the decoder reads from a table word. -/
def decodeTableWord (nbits w : Nat) : Option Instr :=
  match decode (tableWordBytes nbits w) with
  | .instr i _ => some i
  | .error _ => none

end Sys2Proof
end

