-- ==== Sys2Proof/Config.lean ====
section
/-! DEFINITION. What an implementation fixes: the open parameters of 00_scope.md R8, and the byte an unlisted address reads as. -/

namespace Sys2Proof.Config

/-- `JMP_IND_PAGE_WRAP` (00_scope.md R8, 92_eei_decisions.md D14): whether `JMP (ind)` reads the high byte of its target
from the page of the low byte. The spec leaves it open, so it has no body: a claim holds for both values (log entry 1). -/
opaque jmpIndPageWrap : Bool

/-- DESIGN CHOICE (log entry 2): the byte an address that the memory list does not name reads as. It is how a memory image is
written down, not a claim about `LAUNCH_MEMORY` (00_scope.md R8): every image of 65,536 bytes is a memory of the model. -/
def unlistedByte : Byte := 0x00

end Sys2Proof.Config
end

