-- ==== Sys2Proof/Machine/State.lean ====
section
/-! DEFINITION. The state of the machine as plain data (spec/10_state.md R20 to R41), its reasons to stop, and the state right
after reset. -/

namespace Sys2Proof.Machine

/-- Memory: (address, byte) pairs in the canonical form `Memory.wf` states; an address not listed reads as
`Config.unlistedByte` (R20: "a model carries it beside the block's state"). -/
abbrev Memory := List Host.Cell

/-- The status register P: its seven stored bits (R27, R28). Bit 5 is not storage (R33); the register's byte is
`Status.toByte` (log entry 4). -/
structure Status where
  /-- bit 7, Negative (R35) -/
  n : Bool
  /-- bit 6, Overflow (R35) -/
  v : Bool
  /-- bit 4, Break (R34) -/
  b : Bool
  /-- bit 3, Decimal (R32) -/
  d : Bool
  /-- bit 2, InterruptDisable (R31) -/
  i : Bool
  /-- bit 1, Zero (R30) -/
  z : Bool
  /-- bit 0, Carry (R29) -/
  c : Bool
  deriving DecidableEq, Repr

/-- The fault codes (60_exceptions.md R270, R271). -/
inductive FaultCode where
  | invalidOpcode
  | invalidOperand
  deriving DecidableEq, Repr

/-- The fault record `{code, opcode, opc_addr}` (10_state.md R39). -/
structure FaultRecord where
  code : FaultCode
  opcode : Byte
  opcAddr : Addr
  deriving DecidableEq, Repr

/-- The architectural state (R20): "exactly the following, and nothing else", and memory. -/
structure State where
  /-- A, the accumulator (R22) -/
  a : Byte
  /-- X (R23) -/
  x : Byte
  /-- Y (R24) -/
  y : Byte
  /-- S, the stack pointer (R25) -/
  sp : Byte
  /-- PC (R26): at an instruction boundary, the address of the next opcode -/
  pc : Addr
  /-- P (R27) -/
  p : Status
  /-- the cycle counter (R37) -/
  cycles : Cycles
  /-- `irq_pending` (R38) -/
  irqPending : Bool
  /-- `nmi_pending` (R38) -/
  nmiPending : Bool
  /-- the fault record; `none` while the block runs (R39) -/
  fault : Option FaultRecord
  /-- the 65,536 bytes of memory (R20, 20_memory.md R51) -/
  mem : Memory
  deriving DecidableEq, Repr

/-- Why a step answers no next state. -/
inductive Fault where
  /-- Raised by `step` alone, in a state whose fault record is set: the block is halted and `Step()` has no transition until
  `Reset()` (10_state.md R39, 30_encoding.md R80). The record is the one the state holds. Safe: the spec gives no next state. -/
  | halted (record : FaultRecord)
  deriving DecidableEq, Repr

/-- Why an instruction has no meaning. -/
inductive Refusal where
  /-- Raised by `exec`, in an arm of an instruction that has no meaning yet; every instruction has one, so no arm raises it.
  Safe: no claim follows from a refusal. -/
  | notModelled (mnemonic : String)
  deriving DecidableEq, Repr

/-- What an instruction or a step answers. -/
abbrev Result := Host.Outcome State Fault Refusal

/-- P after Reset: 0x36, so N=0 V=0 B=1 D=0 I=1 Z=1 C=0 (R40). -/
def Status.reset : Status :=
  { n := false, v := false, b := true, d := false, i := true, z := true, c := false }

/-- The machine right after the first `Reset()` (R40), with the all-zero launch memory (log entries 2 and 3): PC is the word
at 0xFFFC, `cycles` the power-on 0 plus Reset's 7, the pending flags their power-on values (R41). -/
def State.reset : State :=
  { a := 0x00, x := 0x00, y := 0x00, sp := 0xFF, pc := 0x0000, p := Status.reset, cycles := 7,
    irqPending := false, nmiPending := false, fault := none, mem := [] }

end Sys2Proof.Machine
end

