-- ==== Sys2Proof/Machine/Ops.lean ====
section
/-! DEFINITION. The named operations over memory and registers: memory access (spec/20_memory.md), the stack (47_stack.md R210,
R211), the status byte (10_state.md R36), taking an interrupt and returning from one (60_exceptions.md R256, R260), faults
(R270), Reset (70_reset_and_hazards.md R290) and interrupt requests (R252). -/

namespace Sys2Proof.Machine

/-! ## Memory -/

/-- The byte at an address (R57). -/
def Memory.read : Memory → Nat → Byte
  | [], _ => Config.unlistedByte
  | (b, w) :: m, a => if a = b then w else Memory.read m a

/-- A cell put in front of a memory, left out when it would repeat what an unlisted address reads as. -/
def Memory.cons (a : Nat) (v : Byte) (m : Memory) : Memory :=
  if v = Config.unlistedByte then m else (a, v) :: m

/-- Store a byte at an address, keeping the canonical form (R57). -/
def Memory.write : Memory → Nat → Byte → Memory
  | [], a, v => Memory.cons a v []
  | (b, w) :: m, a, v =>
    if a < b then Memory.cons a v ((b, w) :: m)
    else if a = b then Memory.cons a v m
    else (b, w) :: Memory.write m a v

/-- Cells at rising addresses from `low` on, below 65,536 (R51), none repeating the unlisted byte. -/
def Memory.wfFrom : Nat → Memory → Bool
  | _, [] => true
  | low, (b, w) :: m =>
    decide (low ≤ b) && decide (b < 65536) && decide (w ≠ Config.unlistedByte) && Memory.wfFrom (b + 1) m

/-- The canonical form of a memory: equal memories are equal lists. -/
def Memory.wf (m : Memory) : Bool := Memory.wfFrom 0 m

/-- `MemRead(addr, 1)` (R50): every address is valid. -/
def State.load (s : State) (addr : Addr) : Byte := s.mem.read addr.toNat

/-- `MemWrite(addr, 1, v)` (R50). -/
def State.store (addr : Addr) (v : Byte) (s : State) : State :=
  { s with mem := s.mem.write addr.toNat v }

/-- `Read16(addr)` (00_scope.md R10): low byte at `addr`, high byte at `addr + 1` modulo 2^16 (20_memory.md R53, R54). -/
def State.load16 (s : State) (addr : Addr) : Addr := wordOf (s.load (addr + 1)) (s.load addr)

/-! ## Registers (10_state.md R22 to R26, R37) -/

def State.setA (v : Byte) (s : State) : State := { s with a := v }

def State.setX (v : Byte) (s : State) : State := { s with x := v }

def State.setY (v : Byte) (s : State) : State := { s with y := v }

def State.setSp (v : Byte) (s : State) : State := { s with sp := v }

def State.setPc (v : Addr) (s : State) : State := { s with pc := v }

def State.setP (v : Status) (s : State) : State := { s with p := v }

/-- `cycles += n`, modulo 2^64 (R37). -/
def State.addCycles (n : Cycles) (s : State) : State := { s with cycles := s.cycles + n }

/-! ## The status byte -/

/-- `PushedP(b) = N:V:1:b:D:I:Z:C` (R36). -/
def Status.pushed (b : Bool) (p : Status) : Byte :=
  BitVec.ofBoolListBE [p.n, p.v, true, b, p.d, p.i, p.z, p.c]

/-- The 8-bit value of P: the layout of R27, bit 5 reading as 1 (R33) and bit 4 the stored B (R34). -/
def Status.toByte (p : Status) : Byte := p.pushed p.b

/-- `WriteP(v)` (R36): six flags from the byte; B and bit 5 unchanged. -/
def Status.writeP (v : Byte) (p : Status) : Status :=
  { p with
    n := v.getLsbD 7
    v := v.getLsbD 6
    d := v.getLsbD 3
    i := v.getLsbD 2
    z := v.getLsbD 1
    c := v.getLsbD 0 }

/-! ## The stack -/

/-- The address S designates: `0x0100 + S` (R25). -/
def stackAddr (sp : Byte) : Addr := 0x0100 + sp.setWidth 16

/-- `Push(v)` (R210): write, then decrement S modulo 256. -/
def State.push (v : Byte) (s : State) : State := (s.store (stackAddr s.sp) v).setSp (s.sp - 1)

/-- The byte `Pull()` returns (R211): S is incremented before the read. -/
def State.pulled (s : State) : Byte := s.load (stackAddr (s.sp + 1))

/-- The state `Pull()` leaves (R211). -/
def State.pull (s : State) : State := s.setSp (s.sp + 1)

/-- Push a 16-bit value: high byte first, so that it lies low byte first in memory (20_memory.md R54). -/
def State.push16 (w : Addr) (s : State) : State := (s.push (hiByte w)).push (loByte w)

/-- The 16-bit value two pulls return: low byte first (R222, R223). -/
def State.pulled16 (s : State) : Addr := wordOf s.pull.pulled s.pulled

/-- The state two pulls leave. -/
def State.pull16 (s : State) : State := s.pull.pull

/-! ## Vectors (20_memory.md R60) -/

def nmiVector : Addr := 0xFFFA

def resetVector : Addr := 0xFFFC

/-- Shared by IRQ and BRK (60_exceptions.md R259). -/
def irqVector : Addr := 0xFFFE

/-! ## Taking an exception, and returning from one -/

/-- The entry sequence NMI, IRQ and BRK share (R256, 48_control_transfer.md R224): push the return address high byte first,
push `PushedP(b)`, set I, load PC from the vector. Nothing else changes. -/
def State.enter (ret : Addr) (b : Bool) (vector : Addr) (s : State) : State :=
  let pushed := (s.push16 ret).push (s.p.pushed b)
  (pushed.setP { pushed.p with i := true }).setPc (pushed.load16 vector)

/-- `EnterInterrupt(vector)` (R256): the pushed PC is the address of the instruction that would have run next, bit 4 of the
pushed status is 0, and the entry costs 7 cycles. -/
def State.enterInterrupt (vector : Addr) (s : State) : State :=
  (s.enter s.pc false vector).addCycles 7

/-- NMI service (R254): whatever I holds. -/
def State.serviceNmi (s : State) : State :=
  State.enterInterrupt nmiVector { s with nmiPending := false }

/-- IRQ service (R255). -/
def State.serviceIrq (s : State) : State :=
  State.enterInterrupt irqVector { s with irqPending := false }

/-- The return from an interrupt (R260, 48_control_transfer.md R223): pull the status byte and write P from it, then pull PC,
with no increment. -/
def State.returnFromInterrupt (s : State) : State :=
  let t := s.pull.setP (s.p.writeP s.pulled)
  t.pull16.setPc t.pulled16

/-! ## Faults -/

/-- A fatal fault (60_exceptions.md R270, R271; 30_encoding.md R121): the opcode byte has been fetched, so PC is past it; the
record is set; nothing else changes and no cycles are added. -/
def State.raise (code : FaultCode) (s : State) : State :=
  { s with pc := s.pc + 1, fault := some ⟨code, s.load s.pc, s.pc⟩ }

/-- The numeric code of a fault record (R270, R271). -/
def FaultCode.number : FaultCode → Nat
  | .invalidOpcode => 1
  | .invalidOperand => 2

/-- The code the environment reads: 0 means no fault (92_eei_decisions.md D22). -/
def State.faultNumber (s : State) : Nat :=
  match s.fault with
  | none => 0
  | some r => r.code.number

/-! ## Reset and interrupt requests -/

/-- What `Reset()` leaves, from the state it does not touch or only adds to (R290). -/
def resetFrom (cycles : Cycles) (irqPending nmiPending : Bool) (mem : Memory) : State :=
  let s : State :=
    { a := 0x00, x := 0x00, y := 0x00, sp := 0xFF, pc := 0, p := Status.reset, cycles := cycles + 7,
      irqPending := irqPending, nmiPending := nmiPending, fault := none, mem := mem }
  s.setPc (s.load16 resetVector)

/-- `Reset()` (R290): from any state. -/
def State.doReset (s : State) : State := resetFrom s.cycles s.irqPending s.nmiPending s.mem

/-- The first `Reset()` of a run (10_state.md R41): before it, registers hold no value, `cycles` is 0, nothing is pending and
memory holds `LAUNCH_MEMORY` (00_scope.md R8), the argument (log entries 2 and 3). -/
def State.afterFirstReset (launch : Memory) : State := resetFrom 0 false false launch

/-- `TriggerInterrupt(maskable)` (60_exceptions.md R252, 10_state.md R38): `true` requests an IRQ, `false` an NMI. -/
def State.triggerInterrupt (maskable : Bool) (s : State) : State :=
  if maskable then { s with irqPending := true } else { s with nmiPending := true }

/-- A step would take an interrupt (30_encoding.md R80): an NMI, or an IRQ while I is 0. -/
def State.interruptDue (s : State) : Bool := s.nmiPending || (s.irqPending && !s.p.i)

/-! ## Ending an instruction -/

/-- The end of an instruction that does not transfer control: PC past its bytes (30_encoding.md R107), its cost added once
(R81, R83). -/
def State.retire (length : Addr) (cost : Cycles) (s : State) : State :=
  { s with pc := s.pc + length, cycles := s.cycles + cost }

/-- An instruction that leaves `s`, then ends. -/
def complete (length : Addr) (cost : Cycles) (s : State) : Result := .next (s.retire length cost)

end Sys2Proof.Machine
end

