-- ==== Sys2Proof/Machine/Operands.lean ====
section
/-! DEFINITION. The address resolver (spec/30_encoding.md R95 to R106): the effective address of every addressing mode, and
when an index addition crosses a page. The state an address is resolved in is the one before the instruction. -/

namespace Sys2Proof.Machine

/-- `zext_16` (00_scope.md R9). -/
def zext16 (v : Byte) : Addr := v.setWidth 16

/-- `sext_16` (R9). -/
def sext16 (v : Byte) : Addr := v.signExtend 16

/-- ZP (R97). -/
def eaZp (zp : Byte) : Addr := zext16 zp

/-- ZPX (R97): the sum wraps within 0 to 255. -/
def eaZpx (zp : Byte) (s : State) : Addr := zext16 (zp + s.x)

/-- ZPY (R98). -/
def eaZpy (zp : Byte) (s : State) : Addr := zext16 (zp + s.y)

/-- ABX (R99): the full 16-bit sum. -/
def eaAbx (base : Addr) (s : State) : Addr := base + zext16 s.x

/-- ABY (R100). -/
def eaAby (base : Addr) (s : State) : Addr := base + zext16 s.y

/-- The word a zero-page pointer designates: both of its bytes are read within zero page (R102, R103). -/
def zpPointer (ptr : Byte) (s : State) : Addr :=
  wordOf (s.load (zext16 (ptr + 1))) (s.load (zext16 ptr))

/-- IZX, (zp,X) (R102): X is added before the pointer is read, with 8-bit wraparound. -/
def eaIzx (zp : Byte) (s : State) : Addr := zpPointer (zp + s.x) s

/-- IZY, (zp),Y (R103): Y is added to the word the pointer designates. -/
def eaIzy (zp : Byte) (s : State) : Addr := zpPointer zp s + zext16 s.y

/-- Where `JMP (ind)` reads the high byte of its target (R101): in the page of the low byte if `wrap`, else at the next
address. The two differ only when the pointer's low byte is 0xFF, so only then is `wrap` consulted. -/
def indHighAddr (wrap : Bool) (ptr : Addr) : Addr :=
  if loByte ptr = 0xFF then
    if wrap then wordOf (hiByte ptr) 0x00 else ptr + 1
  else ptr + 1

/-- IND (R101): the word read through the pointer. -/
def eaInd (wrap : Bool) (ptr : Addr) (s : State) : Addr :=
  wordOf (s.load (indHighAddr wrap ptr)) (s.load ptr)

/-- REL (R104): the next-instruction address plus the signed displacement, modulo 2^16. -/
def eaRel (disp : Byte) (s : State) : Addr := s.pc + 2 + sext16 disp

/-- `crossed` (R99, R100, R103): adding the index changes the high byte of the address. -/
def crossed (base : Addr) (index : Byte) : Bool :=
  decide (hiByte (base + zext16 index) ≠ hiByte base)

/-- The page-crossing penalty (R106): one cycle. -/
def pagePenalty (crossed : Bool) : Cycles := if crossed then 1 else 0

/-- What `Resolve` answers for an effective address: none, the accumulator, or an address (R95). -/
inductive EffAddr where
  | none
  | acc
  | mem (addr : Addr)
  deriving DecidableEq, Repr

/-- `Resolve(mode)` (R95), on the operand bytes of an instruction at PC, low byte first: the effective address and
`crossed`. -/
def resolve (mode : Mode) (b0 b1 : Byte) (s : State) : EffAddr × Bool :=
  match mode with
  | .IMP => (.none, false)
  | .ACC => (.acc, false)
  | .IMM => (.mem (s.pc + 1), false)
  | .ZP => (.mem (eaZp b0), false)
  | .ZPX => (.mem (eaZpx b0 s), false)
  | .ZPY => (.mem (eaZpy b0 s), false)
  | .ABS => (.mem (wordOf b1 b0), false)
  | .ABX => (.mem (eaAbx (wordOf b1 b0) s), crossed (wordOf b1 b0) s.x)
  | .ABY => (.mem (eaAby (wordOf b1 b0) s), crossed (wordOf b1 b0) s.y)
  | .IND => (.mem (eaInd Config.jmpIndPageWrap (wordOf b1 b0) s), false)
  | .IZX => (.mem (eaIzx b0 s), false)
  | .IZY => (.mem (eaIzy b0 s), crossed (zpPointer b0 s) s.y)
  | .REL => (.mem (eaRel b0 s), false)

end Sys2Proof.Machine
end

