-- ==== Sys2Proof/Machine/Flags.lean ====
section
/-! DEFINITION. The ALU's values and flags (spec/40_arithmetic.md to 44_inc_dec.md; 10_state.md R28 to R35). Each result is
computed exactly on integers and narrowed at the end. -/

namespace Sys2Proof.Machine

/-- `SetNZ(v)` (00_scope.md R10): N is bit 7, Z is "equals 0". -/
def Status.setNZ (v : Byte) (p : Status) : Status :=
  { p with n := v.getLsbD 7, z := decide (v = 0) }

/-- `SetNZ(v)` on the machine. -/
def State.setNZ (v : Byte) (s : State) : State := s.setP (s.p.setNZ v)

/-! ## ADC and SBC -/

/-- `sum` of R140: an integer, 0 to 511. -/
def adcSum (a m : Byte) (c : Bool) : Nat := a.toNat + m.toNat + c.toNat

/-- `r` of R140: the sum modulo 256, whatever D holds (R142). -/
def adcResult (a m : Byte) (c : Bool) : Byte := BitVec.ofNat 8 (adcSum a m c)

/-- C of R140: the 9-bit sum exceeds 255. -/
def adcCarry (a m : Byte) (c : Bool) : Bool := decide (255 < adcSum a m c)

/-- V of R140: operands of equal sign, result of the other sign. -/
def adcOverflow (a m : Byte) (c : Bool) : Bool :=
  let r := adcResult a m c
  ((a ^^^ r) &&& (m ^^^ r)).getLsbD 7

/-- `diff` of R141: an integer, -256 to 255; C = 1 means "no borrow in". -/
def sbcDiff (a m : Byte) (c : Bool) : Int := (a.toNat : Int) - m.toNat - (1 - c.toNat)

/-- `r` of R141: the difference modulo 256, whatever D holds (R142). -/
def sbcResult (a m : Byte) (c : Bool) : Byte := BitVec.ofInt 8 (sbcDiff a m c)

/-- C of R141: no borrow occurred. -/
def sbcCarry (a m : Byte) (c : Bool) : Bool := decide (0 ≤ sbcDiff a m c)

/-- V of R141: operands of different sign, and the result's sign differs from A's. -/
def sbcOverflow (a m : Byte) (c : Bool) : Bool :=
  let r := sbcResult a m c
  ((a ^^^ m) &&& (a ^^^ r)).getLsbD 7

/-- The flags ADC writes (R140): N, Z, C, V. -/
def Status.adc (a m : Byte) (p : Status) : Status :=
  { p.setNZ (adcResult a m p.c) with c := adcCarry a m p.c, v := adcOverflow a m p.c }

/-- The flags SBC writes (R141): N, Z, C, V. -/
def Status.sbc (a m : Byte) (p : Status) : Status :=
  { p.setNZ (sbcResult a m p.c) with c := sbcCarry a m p.c, v := sbcOverflow a m p.c }

/-! ## BIT and the compares -/

/-- The flags BIT writes (41_logical.md R153): Z from `A & M`, N and V from bits 7 and 6 of M. -/
def Status.bit (a m : Byte) (p : Status) : Status :=
  { p with z := decide (a &&& m = 0), n := m.getLsbD 7, v := m.getLsbD 6 }

/-- `Compare(R, M)` (43_compare.md R170): N, Z, C; C is not read. -/
def Status.compare (r m : Byte) (p : Status) : Status :=
  { p with c := decide (m.toNat ≤ r.toNat), z := decide (r = m), n := (r - m).getLsbD 7 }

/-! ## Shifts and rotates: the result and the bit shifted out, from the carry in and the operand -/

/-- ASL (42_shift_rotate.md R160). -/
def aslOut (_ : Bool) (v : Byte) : Byte × Bool := (v <<< 1, v.getLsbD 7)

/-- LSR (R161). -/
def lsrOut (_ : Bool) (v : Byte) : Byte × Bool := (v >>> 1, v.getLsbD 0)

/-- ROL (R162): the old C enters bit 0. -/
def rolOut (c : Bool) (v : Byte) : Byte × Bool := ((v <<< 1) ||| (BitVec.ofBool c).setWidth 8, v.getLsbD 7)

/-- ROR (R163): the old C enters bit 7. -/
def rorOut (c : Bool) (v : Byte) : Byte × Bool :=
  ((v >>> 1) ||| ((BitVec.ofBool c).setWidth 8 <<< 7), v.getLsbD 0)

/-- The flags a shift or rotate writes (R160 to R163): N and Z from the result, C the bit shifted out. -/
def Status.shifted (out : Byte × Bool) (p : Status) : Status := { p.setNZ out.1 with c := out.2 }

end Sys2Proof.Machine
end

