-- ==== Sys2Proof/Machine/Arithmetic.lean ====
section
/-! DEFINITION. ADC and SBC (spec/40_arithmetic.md R140 to R144). -/

namespace Sys2Proof.Machine

/-- ADC with operand `m` (R140): A, N, Z, C and V are written. -/
def effAdc (m : Byte) (s : State) : State :=
  (s.setA (adcResult s.a m s.p.c)).setP (s.p.adc s.a m)

/-- SBC with operand `m` (R141): A, N, Z, C and V are written. -/
def effSbc (m : Byte) (s : State) : State :=
  (s.setA (sbcResult s.a m s.p.c)).setP (s.p.sbc s.a m)

/-- `ADC #$nn`, 0x69 (R140, R96): 2 bytes, 2 cycles. -/
def execAdcImm (v : Byte) (s : State) : Result :=
  complete 2 2 (effAdc v s)

/-- `ADC $nn`, 0x65 (R140, R97): 2 bytes, 3 cycles. -/
def execAdcZp (zp : Byte) (s : State) : Result :=
  complete 2 3 (effAdc (s.load (eaZp zp)) s)

/-- `ADC $nn,X`, 0x75 (R140, R97): 2 bytes, 4 cycles. -/
def execAdcZpx (zp : Byte) (s : State) : Result :=
  complete 2 4 (effAdc (s.load (eaZpx zp s)) s)

/-- `ADC $hhll`, 0x6D (R140, R99): 3 bytes, 4 cycles. -/
def execAdcAbs (addr : Addr) (s : State) : Result :=
  complete 3 4 (effAdc (s.load addr) s)

/-- `ADC $hhll,X`, 0x7D (R140, R99): 3 bytes, 4 cycles, +1 if the page is crossed. -/
def execAdcAbx (base : Addr) (s : State) : Result :=
  complete 3 (4 + pagePenalty (crossed base s.x)) (effAdc (s.load (eaAbx base s)) s)

/-- `ADC $hhll,Y`, 0x79 (R140, R100): 3 bytes, 4 cycles, +1 if the page is crossed. -/
def execAdcAby (base : Addr) (s : State) : Result :=
  complete 3 (4 + pagePenalty (crossed base s.y)) (effAdc (s.load (eaAby base s)) s)

/-- `ADC ($nn,X)`, 0x61 (R140, R102): 2 bytes, 6 cycles. -/
def execAdcIzx (zp : Byte) (s : State) : Result :=
  complete 2 6 (effAdc (s.load (eaIzx zp s)) s)

/-- `ADC ($nn),Y`, 0x71 (R140, R103): 2 bytes, 5 cycles, +1 if the page is crossed. -/
def execAdcIzy (zp : Byte) (s : State) : Result :=
  complete 2 (5 + pagePenalty (crossed (zpPointer zp s) s.y)) (effAdc (s.load (eaIzy zp s)) s)

/-- `SBC #$nn`, 0xE9 (R141, R96): 2 bytes, 2 cycles. -/
def execSbcImm (v : Byte) (s : State) : Result :=
  complete 2 2 (effSbc v s)

/-- `SBC $nn`, 0xE5 (R141, R97): 2 bytes, 3 cycles. -/
def execSbcZp (zp : Byte) (s : State) : Result :=
  complete 2 3 (effSbc (s.load (eaZp zp)) s)

/-- `SBC $nn,X`, 0xF5 (R141, R97): 2 bytes, 4 cycles. -/
def execSbcZpx (zp : Byte) (s : State) : Result :=
  complete 2 4 (effSbc (s.load (eaZpx zp s)) s)

/-- `SBC $hhll`, 0xED (R141, R99): 3 bytes, 4 cycles. -/
def execSbcAbs (addr : Addr) (s : State) : Result :=
  complete 3 4 (effSbc (s.load addr) s)

/-- `SBC $hhll,X`, 0xFD (R141, R99): 3 bytes, 4 cycles, +1 if the page is crossed. -/
def execSbcAbx (base : Addr) (s : State) : Result :=
  complete 3 (4 + pagePenalty (crossed base s.x)) (effSbc (s.load (eaAbx base s)) s)

/-- `SBC $hhll,Y`, 0xF9 (R141, R100): 3 bytes, 4 cycles, +1 if the page is crossed. -/
def execSbcAby (base : Addr) (s : State) : Result :=
  complete 3 (4 + pagePenalty (crossed base s.y)) (effSbc (s.load (eaAby base s)) s)

/-- `SBC ($nn,X)`, 0xE1 (R141, R102): 2 bytes, 6 cycles. -/
def execSbcIzx (zp : Byte) (s : State) : Result :=
  complete 2 6 (effSbc (s.load (eaIzx zp s)) s)

/-- `SBC ($nn),Y`, 0xF1 (R141, R103): 2 bytes, 5 cycles, +1 if the page is crossed. -/
def execSbcIzy (zp : Byte) (s : State) : Result :=
  complete 2 (5 + pagePenalty (crossed (zpPointer zp s) s.y)) (effSbc (s.load (eaIzy zp s)) s)

end Sys2Proof.Machine
end

