-- ==== Sys2Proof/Machine/Branch.lean ====
section
/-! DEFINITION. The conditional branches (spec/49_branch_flags_nop.md R230 to R238). -/

namespace Sys2Proof.Machine

/-- `Branch(cond)` (R230): base 2 cycles, 1 more if taken, 1 more again if the target's page is not that of the
next-instruction address. -/
def branch (cond : Bool) (disp : Byte) (s : State) : Result :=
  .next (if cond then
    (s.setPc (eaRel disp s)).addCycles (3 + pagePenalty (decide (hiByte (eaRel disp s) ≠ hiByte (s.pc + 2))))
  else s.retire 2 2)

/-- `BCC label`, 0x90 (R231, R104): 2 bytes, 2, 3 or 4 cycles. -/
def execBcc (disp : Byte) (s : State) : Result :=
  branch (!s.p.c) disp s

/-- `BCS label`, 0xB0 (R232, R104): 2 bytes, 2, 3 or 4 cycles. -/
def execBcs (disp : Byte) (s : State) : Result :=
  branch s.p.c disp s

/-- `BEQ label`, 0xF0 (R233, R104): 2 bytes, 2, 3 or 4 cycles. -/
def execBeq (disp : Byte) (s : State) : Result :=
  branch s.p.z disp s

/-- `BNE label`, 0xD0 (R234, R104): 2 bytes, 2, 3 or 4 cycles. -/
def execBne (disp : Byte) (s : State) : Result :=
  branch (!s.p.z) disp s

/-- `BMI label`, 0x30 (R235, R104): 2 bytes, 2, 3 or 4 cycles. -/
def execBmi (disp : Byte) (s : State) : Result :=
  branch s.p.n disp s

/-- `BPL label`, 0x10 (R236, R104): 2 bytes, 2, 3 or 4 cycles. -/
def execBpl (disp : Byte) (s : State) : Result :=
  branch (!s.p.n) disp s

/-- `BVC label`, 0x50 (R237, R104): 2 bytes, 2, 3 or 4 cycles. -/
def execBvc (disp : Byte) (s : State) : Result :=
  branch (!s.p.v) disp s

/-- `BVS label`, 0x70 (R238, R104): 2 bytes, 2, 3 or 4 cycles. -/
def execBvs (disp : Byte) (s : State) : Result :=
  branch s.p.v disp s

end Sys2Proof.Machine
end

