-- ==== Sys2Proof/Machine/Compare.lean ====
section
/-! DEFINITION. CMP, CPX and CPY (spec/43_compare.md R170 to R173). -/

namespace Sys2Proof.Machine

/-- A compare of register value `r` with operand `m` (R170): N, Z and C only. -/
def effCompare (r m : Byte) (s : State) : State := s.setP (s.p.compare r m)

/-- `CMP #$nn`, 0xC9 (R171, R96): 2 bytes, 2 cycles. -/
def execCmpImm (v : Byte) (s : State) : Result :=
  complete 2 2 (effCompare s.a v s)

/-- `CMP $nn`, 0xC5 (R171, R97): 2 bytes, 3 cycles. -/
def execCmpZp (zp : Byte) (s : State) : Result :=
  complete 2 3 (effCompare s.a (s.load (eaZp zp)) s)

/-- `CMP $nn,X`, 0xD5 (R171, R97): 2 bytes, 4 cycles. -/
def execCmpZpx (zp : Byte) (s : State) : Result :=
  complete 2 4 (effCompare s.a (s.load (eaZpx zp s)) s)

/-- `CMP $hhll`, 0xCD (R171, R99): 3 bytes, 4 cycles. -/
def execCmpAbs (addr : Addr) (s : State) : Result :=
  complete 3 4 (effCompare s.a (s.load addr) s)

/-- `CMP $hhll,X`, 0xDD (R171, R99): 3 bytes, 4 cycles, +1 if the page is crossed. -/
def execCmpAbx (base : Addr) (s : State) : Result :=
  complete 3 (4 + pagePenalty (crossed base s.x)) (effCompare s.a (s.load (eaAbx base s)) s)

/-- `CMP $hhll,Y`, 0xD9 (R171, R100): 3 bytes, 4 cycles, +1 if the page is crossed. -/
def execCmpAby (base : Addr) (s : State) : Result :=
  complete 3 (4 + pagePenalty (crossed base s.y)) (effCompare s.a (s.load (eaAby base s)) s)

/-- `CMP ($nn,X)`, 0xC1 (R171, R102): 2 bytes, 6 cycles. -/
def execCmpIzx (zp : Byte) (s : State) : Result :=
  complete 2 6 (effCompare s.a (s.load (eaIzx zp s)) s)

/-- `CMP ($nn),Y`, 0xD1 (R171, R103): 2 bytes, 5 cycles, +1 if the page is crossed. -/
def execCmpIzy (zp : Byte) (s : State) : Result :=
  complete 2 (5 + pagePenalty (crossed (zpPointer zp s) s.y)) (effCompare s.a (s.load (eaIzy zp s)) s)

/-- `CPX #$nn`, 0xE0 (R172, R96): 2 bytes, 2 cycles. -/
def execCpxImm (v : Byte) (s : State) : Result :=
  complete 2 2 (effCompare s.x v s)

/-- `CPX $nn`, 0xE4 (R172, R97): 2 bytes, 3 cycles. -/
def execCpxZp (zp : Byte) (s : State) : Result :=
  complete 2 3 (effCompare s.x (s.load (eaZp zp)) s)

/-- `CPX $hhll`, 0xEC (R172, R99): 3 bytes, 4 cycles. -/
def execCpxAbs (addr : Addr) (s : State) : Result :=
  complete 3 4 (effCompare s.x (s.load addr) s)

/-- `CPY #$nn`, 0xC0 (R173, R96): 2 bytes, 2 cycles. -/
def execCpyImm (v : Byte) (s : State) : Result :=
  complete 2 2 (effCompare s.y v s)

/-- `CPY $nn`, 0xC4 (R173, R97): 2 bytes, 3 cycles. -/
def execCpyZp (zp : Byte) (s : State) : Result :=
  complete 2 3 (effCompare s.y (s.load (eaZp zp)) s)

/-- `CPY $hhll`, 0xCC (R173, R99): 3 bytes, 4 cycles. -/
def execCpyAbs (addr : Addr) (s : State) : Result :=
  complete 3 4 (effCompare s.y (s.load addr) s)

end Sys2Proof.Machine
end

