-- ==== Sys2Proof/Machine/Control.lean ====
section
/-! DEFINITION. JMP, JSR, RTS, RTI and BRK (spec/48_control_transfer.md R220 to R224). -/

namespace Sys2Proof.Machine

/-- `JMP $hhll`, 0x4C (R220, R99): 3 bytes, 3 cycles. -/
def execJmpAbs (target : Addr) (s : State) : Result :=
  .next ((s.setPc target).addCycles 3)

/-- `JMP ($hhll)`, 0x6C (R220, R101): 3 bytes, 5 cycles. -/
def execJmpInd (ptr : Addr) (s : State) : Result :=
  .next ((s.setPc (eaInd Config.jmpIndPageWrap ptr s)).addCycles 5)

/-- `JSR $hhll`, 0x20 (R221, R99): 3 bytes, 6 cycles. Pushes the address of its last byte; both operand bytes
were read before (92_eei_decisions.md D26). -/
def execJsr (target : Addr) (s : State) : Result :=
  .next (((s.push16 (s.pc + 2)).setPc target).addCycles 6)

/-- `RTS`, 0x60 (R222): 1 byte, 6 cycles. -/
def execRts (s : State) : Result :=
  .next ((s.pull16.setPc (s.pulled16 + 1)).addCycles 6)

/-- `RTI`, 0x40 (R223): 1 byte, 6 cycles. -/
def execRti (s : State) : Result :=
  .next (s.returnFromInterrupt.addCycles 6)

/-- `BRK`, 0x00 (R224): 1 byte, 7 cycles. Pushes `opc_addr + 2` and the status with bit 4 set, sets I, and
vectors through 0xFFFE, whatever I holds. -/
def execBrk (s : State) : Result :=
  .next ((s.enter (s.pc + 2) true irqVector).addCycles 7)

end Sys2Proof.Machine
end

