-- ==== Sys2Proof/Machine/FlagOps.lean ====
section
/-! DEFINITION. Flag set and clear, and NOP (spec/49_branch_flags_nop.md R240 to R247). -/

namespace Sys2Proof.Machine

/-- `CLC`, 0x18 (R240): 1 byte, 2 cycles. -/
def execClc (s : State) : Result :=
  complete 1 2 (s.setP { s.p with c := false })

/-- `SEC`, 0x38 (R241): 1 byte, 2 cycles. -/
def execSec (s : State) : Result :=
  complete 1 2 (s.setP { s.p with c := true })

/-- `CLI`, 0x58 (R242): 1 byte, 2 cycles. -/
def execCli (s : State) : Result :=
  complete 1 2 (s.setP { s.p with i := false })

/-- `SEI`, 0x78 (R243): 1 byte, 2 cycles. -/
def execSei (s : State) : Result :=
  complete 1 2 (s.setP { s.p with i := true })

/-- `CLD`, 0xD8 (R244): 1 byte, 2 cycles. -/
def execCld (s : State) : Result :=
  complete 1 2 (s.setP { s.p with d := false })

/-- `SED`, 0xF8 (R245): 1 byte, 2 cycles. -/
def execSed (s : State) : Result :=
  complete 1 2 (s.setP { s.p with d := true })

/-- `CLV`, 0xB8 (R246): 1 byte, 2 cycles. -/
def execClv (s : State) : Result :=
  complete 1 2 (s.setP { s.p with v := false })

/-- `NOP`, 0xEA (R247): 1 byte, 2 cycles. -/
def execNop (s : State) : Result :=
  complete 1 2 s

end Sys2Proof.Machine
end

