-- ==== Sys2Proof/Machine/IncDec.lean ====
section
/-! DEFINITION. INC, DEC, INX, INY, DEX and DEY (spec/44_inc_dec.md R180 to R185). -/

namespace Sys2Proof.Machine

/-- Write `r` to `addr` and set N and Z from it: the end of INC and DEC on memory. -/
def effStoreNZ (r : Byte) (addr : Addr) (s : State) : State := (s.store addr r).setNZ r

/-- INC of `addr` (R180): one read, one write. -/
def effInc (addr : Addr) (s : State) : State := effStoreNZ (s.load addr + 1) addr s

/-- DEC of `addr` (R181): one read, one write. -/
def effDec (addr : Addr) (s : State) : State := effStoreNZ (s.load addr - 1) addr s

/-- `INC $nn`, 0xE6 (R180, R97): 2 bytes, 5 cycles. -/
def execIncZp (zp : Byte) (s : State) : Result :=
  complete 2 5 (effInc (eaZp zp) s)

/-- `INC $nn,X`, 0xF6 (R180, R97): 2 bytes, 6 cycles. -/
def execIncZpx (zp : Byte) (s : State) : Result :=
  complete 2 6 (effInc (eaZpx zp s) s)

/-- `INC $hhll`, 0xEE (R180, R99): 3 bytes, 6 cycles. -/
def execIncAbs (addr : Addr) (s : State) : Result :=
  complete 3 6 (effInc addr s)

/-- `INC $hhll,X`, 0xFE (R180, R99): 3 bytes, 7 cycles. -/
def execIncAbx (base : Addr) (s : State) : Result :=
  complete 3 7 (effInc (eaAbx base s) s)

/-- `DEC $nn`, 0xC6 (R181, R97): 2 bytes, 5 cycles. -/
def execDecZp (zp : Byte) (s : State) : Result :=
  complete 2 5 (effDec (eaZp zp) s)

/-- `DEC $nn,X`, 0xD6 (R181, R97): 2 bytes, 6 cycles. -/
def execDecZpx (zp : Byte) (s : State) : Result :=
  complete 2 6 (effDec (eaZpx zp s) s)

/-- `DEC $hhll`, 0xCE (R181, R99): 3 bytes, 6 cycles. -/
def execDecAbs (addr : Addr) (s : State) : Result :=
  complete 3 6 (effDec addr s)

/-- `DEC $hhll,X`, 0xDE (R181, R99): 3 bytes, 7 cycles. -/
def execDecAbx (base : Addr) (s : State) : Result :=
  complete 3 7 (effDec (eaAbx base s) s)

/-- `INX`, 0xE8 (R182): 1 byte, 2 cycles. -/
def execInx (s : State) : Result :=
  complete 1 2 ((s.setX (s.x + 1)).setNZ (s.x + 1))

/-- `INY`, 0xC8 (R183): 1 byte, 2 cycles. -/
def execIny (s : State) : Result :=
  complete 1 2 ((s.setY (s.y + 1)).setNZ (s.y + 1))

/-- `DEX`, 0xCA (R184): 1 byte, 2 cycles. -/
def execDex (s : State) : Result :=
  complete 1 2 ((s.setX (s.x - 1)).setNZ (s.x - 1))

/-- `DEY`, 0x88 (R185): 1 byte, 2 cycles. -/
def execDey (s : State) : Result :=
  complete 1 2 ((s.setY (s.y - 1)).setNZ (s.y - 1))

end Sys2Proof.Machine
end

