-- ==== Sys2Proof/Machine/LoadStore.lean ====
section
/-! DEFINITION. LDA, LDX, LDY, STA, STX and STY (spec/45_load_store.md R190 to R195). -/

namespace Sys2Proof.Machine

/-- LDA of operand `m` (R190): A, N and Z. -/
def effLda (m : Byte) (s : State) : State := (s.setA m).setNZ m

/-- LDX of operand `m` (R191): X, N and Z. -/
def effLdx (m : Byte) (s : State) : State := (s.setX m).setNZ m

/-- LDY of operand `m` (R192): Y, N and Z. -/
def effLdy (m : Byte) (s : State) : State := (s.setY m).setNZ m

/-- `LDA #$nn`, 0xA9 (R190, R96): 2 bytes, 2 cycles. -/
def execLdaImm (v : Byte) (s : State) : Result :=
  complete 2 2 (effLda v s)

/-- `LDA $nn`, 0xA5 (R190, R97): 2 bytes, 3 cycles. -/
def execLdaZp (zp : Byte) (s : State) : Result :=
  complete 2 3 (effLda (s.load (eaZp zp)) s)

/-- `LDA $nn,X`, 0xB5 (R190, R97): 2 bytes, 4 cycles. -/
def execLdaZpx (zp : Byte) (s : State) : Result :=
  complete 2 4 (effLda (s.load (eaZpx zp s)) s)

/-- `LDA $hhll`, 0xAD (R190, R99): 3 bytes, 4 cycles. -/
def execLdaAbs (addr : Addr) (s : State) : Result :=
  complete 3 4 (effLda (s.load addr) s)

/-- `LDA $hhll,X`, 0xBD (R190, R99): 3 bytes, 4 cycles, +1 if the page is crossed. -/
def execLdaAbx (base : Addr) (s : State) : Result :=
  complete 3 (4 + pagePenalty (crossed base s.x)) (effLda (s.load (eaAbx base s)) s)

/-- `LDA $hhll,Y`, 0xB9 (R190, R100): 3 bytes, 4 cycles, +1 if the page is crossed. -/
def execLdaAby (base : Addr) (s : State) : Result :=
  complete 3 (4 + pagePenalty (crossed base s.y)) (effLda (s.load (eaAby base s)) s)

/-- `LDA ($nn,X)`, 0xA1 (R190, R102): 2 bytes, 6 cycles. -/
def execLdaIzx (zp : Byte) (s : State) : Result :=
  complete 2 6 (effLda (s.load (eaIzx zp s)) s)

/-- `LDA ($nn),Y`, 0xB1 (R190, R103): 2 bytes, 5 cycles, +1 if the page is crossed. -/
def execLdaIzy (zp : Byte) (s : State) : Result :=
  complete 2 (5 + pagePenalty (crossed (zpPointer zp s) s.y)) (effLda (s.load (eaIzy zp s)) s)

/-- `LDX #$nn`, 0xA2 (R191, R96): 2 bytes, 2 cycles. -/
def execLdxImm (v : Byte) (s : State) : Result :=
  complete 2 2 (effLdx v s)

/-- `LDX $nn`, 0xA6 (R191, R97): 2 bytes, 3 cycles. -/
def execLdxZp (zp : Byte) (s : State) : Result :=
  complete 2 3 (effLdx (s.load (eaZp zp)) s)

/-- `LDX $nn,Y`, 0xB6 (R191, R98): 2 bytes, 4 cycles. -/
def execLdxZpy (zp : Byte) (s : State) : Result :=
  complete 2 4 (effLdx (s.load (eaZpy zp s)) s)

/-- `LDX $hhll`, 0xAE (R191, R99): 3 bytes, 4 cycles. -/
def execLdxAbs (addr : Addr) (s : State) : Result :=
  complete 3 4 (effLdx (s.load addr) s)

/-- `LDX $hhll,Y`, 0xBE (R191, R100): 3 bytes, 4 cycles, +1 if the page is crossed. -/
def execLdxAby (base : Addr) (s : State) : Result :=
  complete 3 (4 + pagePenalty (crossed base s.y)) (effLdx (s.load (eaAby base s)) s)

/-- `LDY #$nn`, 0xA0 (R192, R96): 2 bytes, 2 cycles. -/
def execLdyImm (v : Byte) (s : State) : Result :=
  complete 2 2 (effLdy v s)

/-- `LDY $nn`, 0xA4 (R192, R97): 2 bytes, 3 cycles. -/
def execLdyZp (zp : Byte) (s : State) : Result :=
  complete 2 3 (effLdy (s.load (eaZp zp)) s)

/-- `LDY $nn,X`, 0xB4 (R192, R97): 2 bytes, 4 cycles. -/
def execLdyZpx (zp : Byte) (s : State) : Result :=
  complete 2 4 (effLdy (s.load (eaZpx zp s)) s)

/-- `LDY $hhll`, 0xAC (R192, R99): 3 bytes, 4 cycles. -/
def execLdyAbs (addr : Addr) (s : State) : Result :=
  complete 3 4 (effLdy (s.load addr) s)

/-- `LDY $hhll,X`, 0xBC (R192, R99): 3 bytes, 4 cycles, +1 if the page is crossed. -/
def execLdyAbx (base : Addr) (s : State) : Result :=
  complete 3 (4 + pagePenalty (crossed base s.x)) (effLdy (s.load (eaAbx base s)) s)

/-- `STA $nn`, 0x85 (R193, R97): 2 bytes, 3 cycles. -/
def execStaZp (zp : Byte) (s : State) : Result :=
  complete 2 3 (s.store (eaZp zp) s.a)

/-- `STA $nn,X`, 0x95 (R193, R97): 2 bytes, 4 cycles. -/
def execStaZpx (zp : Byte) (s : State) : Result :=
  complete 2 4 (s.store (eaZpx zp s) s.a)

/-- `STA $hhll`, 0x8D (R193, R99): 3 bytes, 4 cycles. -/
def execStaAbs (addr : Addr) (s : State) : Result :=
  complete 3 4 (s.store addr s.a)

/-- `STA $hhll,X`, 0x9D (R193, R99): 3 bytes, 5 cycles. -/
def execStaAbx (base : Addr) (s : State) : Result :=
  complete 3 5 (s.store (eaAbx base s) s.a)

/-- `STA $hhll,Y`, 0x99 (R193, R100): 3 bytes, 5 cycles. -/
def execStaAby (base : Addr) (s : State) : Result :=
  complete 3 5 (s.store (eaAby base s) s.a)

/-- `STA ($nn,X)`, 0x81 (R193, R102): 2 bytes, 6 cycles. -/
def execStaIzx (zp : Byte) (s : State) : Result :=
  complete 2 6 (s.store (eaIzx zp s) s.a)

/-- `STA ($nn),Y`, 0x91 (R193, R103): 2 bytes, 6 cycles. -/
def execStaIzy (zp : Byte) (s : State) : Result :=
  complete 2 6 (s.store (eaIzy zp s) s.a)

/-- `STX $nn`, 0x86 (R194, R97): 2 bytes, 3 cycles. -/
def execStxZp (zp : Byte) (s : State) : Result :=
  complete 2 3 (s.store (eaZp zp) s.x)

/-- `STX $nn,Y`, 0x96 (R194, R98): 2 bytes, 4 cycles. -/
def execStxZpy (zp : Byte) (s : State) : Result :=
  complete 2 4 (s.store (eaZpy zp s) s.x)

/-- `STX $hhll`, 0x8E (R194, R99): 3 bytes, 4 cycles. -/
def execStxAbs (addr : Addr) (s : State) : Result :=
  complete 3 4 (s.store addr s.x)

/-- `STY $nn`, 0x84 (R195, R97): 2 bytes, 3 cycles. -/
def execStyZp (zp : Byte) (s : State) : Result :=
  complete 2 3 (s.store (eaZp zp) s.y)

/-- `STY $nn,X`, 0x94 (R195, R97): 2 bytes, 4 cycles. -/
def execStyZpx (zp : Byte) (s : State) : Result :=
  complete 2 4 (s.store (eaZpx zp s) s.y)

/-- `STY $hhll`, 0x8C (R195, R99): 3 bytes, 4 cycles. -/
def execStyAbs (addr : Addr) (s : State) : Result :=
  complete 3 4 (s.store addr s.y)

end Sys2Proof.Machine
end

