-- ==== Sys2Proof/Machine/Logical.lean ====
section
/-! DEFINITION. AND, ORA, EOR and BIT (spec/41_logical.md R150 to R153). -/

namespace Sys2Proof.Machine

/-- Write A and set N and Z from it: the end of AND, ORA and EOR (R150 to R152). -/
def effLogical (r : Byte) (s : State) : State := (s.setA r).setNZ r

/-- BIT with operand `m` (R153): Z, N and V; A is not written. -/
def effBit (m : Byte) (s : State) : State := s.setP (s.p.bit s.a m)

/-- `AND #$nn`, 0x29 (R150, R96): 2 bytes, 2 cycles. -/
def execAndImm (v : Byte) (s : State) : Result :=
  complete 2 2 (effLogical (s.a &&& v) s)

/-- `AND $nn`, 0x25 (R150, R97): 2 bytes, 3 cycles. -/
def execAndZp (zp : Byte) (s : State) : Result :=
  complete 2 3 (effLogical (s.a &&& (s.load (eaZp zp))) s)

/-- `AND $nn,X`, 0x35 (R150, R97): 2 bytes, 4 cycles. -/
def execAndZpx (zp : Byte) (s : State) : Result :=
  complete 2 4 (effLogical (s.a &&& (s.load (eaZpx zp s))) s)

/-- `AND $hhll`, 0x2D (R150, R99): 3 bytes, 4 cycles. -/
def execAndAbs (addr : Addr) (s : State) : Result :=
  complete 3 4 (effLogical (s.a &&& (s.load addr)) s)

/-- `AND $hhll,X`, 0x3D (R150, R99): 3 bytes, 4 cycles, +1 if the page is crossed. -/
def execAndAbx (base : Addr) (s : State) : Result :=
  complete 3 (4 + pagePenalty (crossed base s.x)) (effLogical (s.a &&& (s.load (eaAbx base s))) s)

/-- `AND $hhll,Y`, 0x39 (R150, R100): 3 bytes, 4 cycles, +1 if the page is crossed. -/
def execAndAby (base : Addr) (s : State) : Result :=
  complete 3 (4 + pagePenalty (crossed base s.y)) (effLogical (s.a &&& (s.load (eaAby base s))) s)

/-- `AND ($nn,X)`, 0x21 (R150, R102): 2 bytes, 6 cycles. -/
def execAndIzx (zp : Byte) (s : State) : Result :=
  complete 2 6 (effLogical (s.a &&& (s.load (eaIzx zp s))) s)

/-- `AND ($nn),Y`, 0x31 (R150, R103): 2 bytes, 5 cycles, +1 if the page is crossed. -/
def execAndIzy (zp : Byte) (s : State) : Result :=
  complete 2 (5 + pagePenalty (crossed (zpPointer zp s) s.y)) (effLogical (s.a &&& (s.load (eaIzy zp s))) s)

/-- `ORA #$nn`, 0x09 (R151, R96): 2 bytes, 2 cycles. -/
def execOraImm (v : Byte) (s : State) : Result :=
  complete 2 2 (effLogical (s.a ||| v) s)

/-- `ORA $nn`, 0x05 (R151, R97): 2 bytes, 3 cycles. -/
def execOraZp (zp : Byte) (s : State) : Result :=
  complete 2 3 (effLogical (s.a ||| (s.load (eaZp zp))) s)

/-- `ORA $nn,X`, 0x15 (R151, R97): 2 bytes, 4 cycles. -/
def execOraZpx (zp : Byte) (s : State) : Result :=
  complete 2 4 (effLogical (s.a ||| (s.load (eaZpx zp s))) s)

/-- `ORA $hhll`, 0x0D (R151, R99): 3 bytes, 4 cycles. -/
def execOraAbs (addr : Addr) (s : State) : Result :=
  complete 3 4 (effLogical (s.a ||| (s.load addr)) s)

/-- `ORA $hhll,X`, 0x1D (R151, R99): 3 bytes, 4 cycles, +1 if the page is crossed. -/
def execOraAbx (base : Addr) (s : State) : Result :=
  complete 3 (4 + pagePenalty (crossed base s.x)) (effLogical (s.a ||| (s.load (eaAbx base s))) s)

/-- `ORA $hhll,Y`, 0x19 (R151, R100): 3 bytes, 4 cycles, +1 if the page is crossed. -/
def execOraAby (base : Addr) (s : State) : Result :=
  complete 3 (4 + pagePenalty (crossed base s.y)) (effLogical (s.a ||| (s.load (eaAby base s))) s)

/-- `ORA ($nn,X)`, 0x01 (R151, R102): 2 bytes, 6 cycles. -/
def execOraIzx (zp : Byte) (s : State) : Result :=
  complete 2 6 (effLogical (s.a ||| (s.load (eaIzx zp s))) s)

/-- `ORA ($nn),Y`, 0x11 (R151, R103): 2 bytes, 5 cycles, +1 if the page is crossed. -/
def execOraIzy (zp : Byte) (s : State) : Result :=
  complete 2 (5 + pagePenalty (crossed (zpPointer zp s) s.y)) (effLogical (s.a ||| (s.load (eaIzy zp s))) s)

/-- `EOR #$nn`, 0x49 (R152, R96): 2 bytes, 2 cycles. -/
def execEorImm (v : Byte) (s : State) : Result :=
  complete 2 2 (effLogical (s.a ^^^ v) s)

/-- `EOR $nn`, 0x45 (R152, R97): 2 bytes, 3 cycles. -/
def execEorZp (zp : Byte) (s : State) : Result :=
  complete 2 3 (effLogical (s.a ^^^ (s.load (eaZp zp))) s)

/-- `EOR $nn,X`, 0x55 (R152, R97): 2 bytes, 4 cycles. -/
def execEorZpx (zp : Byte) (s : State) : Result :=
  complete 2 4 (effLogical (s.a ^^^ (s.load (eaZpx zp s))) s)

/-- `EOR $hhll`, 0x4D (R152, R99): 3 bytes, 4 cycles. -/
def execEorAbs (addr : Addr) (s : State) : Result :=
  complete 3 4 (effLogical (s.a ^^^ (s.load addr)) s)

/-- `EOR $hhll,X`, 0x5D (R152, R99): 3 bytes, 4 cycles, +1 if the page is crossed. -/
def execEorAbx (base : Addr) (s : State) : Result :=
  complete 3 (4 + pagePenalty (crossed base s.x)) (effLogical (s.a ^^^ (s.load (eaAbx base s))) s)

/-- `EOR $hhll,Y`, 0x59 (R152, R100): 3 bytes, 4 cycles, +1 if the page is crossed. -/
def execEorAby (base : Addr) (s : State) : Result :=
  complete 3 (4 + pagePenalty (crossed base s.y)) (effLogical (s.a ^^^ (s.load (eaAby base s))) s)

/-- `EOR ($nn,X)`, 0x41 (R152, R102): 2 bytes, 6 cycles. -/
def execEorIzx (zp : Byte) (s : State) : Result :=
  complete 2 6 (effLogical (s.a ^^^ (s.load (eaIzx zp s))) s)

/-- `EOR ($nn),Y`, 0x51 (R152, R103): 2 bytes, 5 cycles, +1 if the page is crossed. -/
def execEorIzy (zp : Byte) (s : State) : Result :=
  complete 2 (5 + pagePenalty (crossed (zpPointer zp s) s.y)) (effLogical (s.a ^^^ (s.load (eaIzy zp s))) s)

/-- `BIT $nn`, 0x24 (R153, R97): 2 bytes, 3 cycles. -/
def execBitZp (zp : Byte) (s : State) : Result :=
  complete 2 3 (effBit (s.load (eaZp zp)) s)

/-- `BIT $hhll`, 0x2C (R153, R99): 3 bytes, 4 cycles. -/
def execBitAbs (addr : Addr) (s : State) : Result :=
  complete 3 4 (effBit (s.load addr) s)

end Sys2Proof.Machine
end

