-- ==== Sys2Proof/Machine/Shift.lean ====
section
/-! DEFINITION. ASL, LSR, ROL and ROR (spec/42_shift_rotate.md R160 to R163). -/

namespace Sys2Proof.Machine

/-- A shift or rotate of A (ACC mode): A, N, Z and C are written. -/
def effShiftA (f : Bool → Byte → Byte × Bool) (s : State) : State :=
  let out := f s.p.c s.a
  (s.setA out.1).setP (s.p.shifted out)

/-- A shift or rotate of memory: one read of `addr`, one write of it (20_memory.md R62), N, Z and C. -/
def effShift (f : Bool → Byte → Byte × Bool) (addr : Addr) (s : State) : State :=
  let out := f s.p.c (s.load addr)
  (s.store addr out.1).setP (s.p.shifted out)

/-- `ASL A`, 0x0A (R160, R96): 1 byte, 2 cycles. -/
def execAslAcc (s : State) : Result :=
  complete 1 2 (effShiftA aslOut s)

/-- `ASL $nn`, 0x06 (R160, R97): 2 bytes, 5 cycles. -/
def execAslZp (zp : Byte) (s : State) : Result :=
  complete 2 5 (effShift aslOut (eaZp zp) s)

/-- `ASL $nn,X`, 0x16 (R160, R97): 2 bytes, 6 cycles. -/
def execAslZpx (zp : Byte) (s : State) : Result :=
  complete 2 6 (effShift aslOut (eaZpx zp s) s)

/-- `ASL $hhll`, 0x0E (R160, R99): 3 bytes, 6 cycles. -/
def execAslAbs (addr : Addr) (s : State) : Result :=
  complete 3 6 (effShift aslOut addr s)

/-- `ASL $hhll,X`, 0x1E (R160, R99): 3 bytes, 7 cycles. -/
def execAslAbx (base : Addr) (s : State) : Result :=
  complete 3 7 (effShift aslOut (eaAbx base s) s)

/-- `LSR A`, 0x4A (R161, R96): 1 byte, 2 cycles. -/
def execLsrAcc (s : State) : Result :=
  complete 1 2 (effShiftA lsrOut s)

/-- `LSR $nn`, 0x46 (R161, R97): 2 bytes, 5 cycles. -/
def execLsrZp (zp : Byte) (s : State) : Result :=
  complete 2 5 (effShift lsrOut (eaZp zp) s)

/-- `LSR $nn,X`, 0x56 (R161, R97): 2 bytes, 6 cycles. -/
def execLsrZpx (zp : Byte) (s : State) : Result :=
  complete 2 6 (effShift lsrOut (eaZpx zp s) s)

/-- `LSR $hhll`, 0x4E (R161, R99): 3 bytes, 6 cycles. -/
def execLsrAbs (addr : Addr) (s : State) : Result :=
  complete 3 6 (effShift lsrOut addr s)

/-- `LSR $hhll,X`, 0x5E (R161, R99): 3 bytes, 7 cycles. -/
def execLsrAbx (base : Addr) (s : State) : Result :=
  complete 3 7 (effShift lsrOut (eaAbx base s) s)

/-- `ROL A`, 0x2A (R162, R96): 1 byte, 2 cycles. -/
def execRolAcc (s : State) : Result :=
  complete 1 2 (effShiftA rolOut s)

/-- `ROL $nn`, 0x26 (R162, R97): 2 bytes, 5 cycles. -/
def execRolZp (zp : Byte) (s : State) : Result :=
  complete 2 5 (effShift rolOut (eaZp zp) s)

/-- `ROL $nn,X`, 0x36 (R162, R97): 2 bytes, 6 cycles. -/
def execRolZpx (zp : Byte) (s : State) : Result :=
  complete 2 6 (effShift rolOut (eaZpx zp s) s)

/-- `ROL $hhll`, 0x2E (R162, R99): 3 bytes, 6 cycles. -/
def execRolAbs (addr : Addr) (s : State) : Result :=
  complete 3 6 (effShift rolOut addr s)

/-- `ROL $hhll,X`, 0x3E (R162, R99): 3 bytes, 7 cycles. -/
def execRolAbx (base : Addr) (s : State) : Result :=
  complete 3 7 (effShift rolOut (eaAbx base s) s)

/-- `ROR A`, 0x6A (R163, R96): 1 byte, 2 cycles. -/
def execRorAcc (s : State) : Result :=
  complete 1 2 (effShiftA rorOut s)

/-- `ROR $nn`, 0x66 (R163, R97): 2 bytes, 5 cycles. -/
def execRorZp (zp : Byte) (s : State) : Result :=
  complete 2 5 (effShift rorOut (eaZp zp) s)

/-- `ROR $nn,X`, 0x76 (R163, R97): 2 bytes, 6 cycles. -/
def execRorZpx (zp : Byte) (s : State) : Result :=
  complete 2 6 (effShift rorOut (eaZpx zp s) s)

/-- `ROR $hhll`, 0x6E (R163, R99): 3 bytes, 6 cycles. -/
def execRorAbs (addr : Addr) (s : State) : Result :=
  complete 3 6 (effShift rorOut addr s)

/-- `ROR $hhll,X`, 0x7E (R163, R99): 3 bytes, 7 cycles. -/
def execRorAbx (base : Addr) (s : State) : Result :=
  complete 3 7 (effShift rorOut (eaAbx base s) s)

end Sys2Proof.Machine
end

