-- ==== Sys2Proof/Machine/Stack.lean ====
section
/-! DEFINITION. PHA, PLA, PHP and PLP (spec/47_stack.md R210 to R215). -/

namespace Sys2Proof.Machine

/-- `PHA`, 0x48 (R212): 1 byte, 3 cycles. -/
def execPha (s : State) : Result :=
  complete 1 3 (s.push s.a)

/-- `PLA`, 0x68 (R213): 1 byte, 4 cycles. -/
def execPla (s : State) : Result :=
  complete 1 4 ((s.pull.setA s.pulled).setNZ s.pulled)

/-- `PHP`, 0x08 (R214): 1 byte, 3 cycles. -/
def execPhp (s : State) : Result :=
  complete 1 3 (s.push (s.p.pushed true))

/-- `PLP`, 0x28 (R215): 1 byte, 4 cycles. -/
def execPlp (s : State) : Result :=
  complete 1 4 (s.pull.setP (s.p.writeP s.pulled))

end Sys2Proof.Machine
end

