-- ==== Sys2Proof/Machine/Transfer.lean ====
section
/-! DEFINITION. TAX, TAY, TXA, TYA, TSX and TXS (spec/46_transfer.md R200 to R205). -/

namespace Sys2Proof.Machine

/-- `TAX`, 0xAA (R200): 1 byte, 2 cycles. -/
def execTax (s : State) : Result :=
  complete 1 2 ((s.setX s.a).setNZ s.a)

/-- `TAY`, 0xA8 (R201): 1 byte, 2 cycles. -/
def execTay (s : State) : Result :=
  complete 1 2 ((s.setY s.a).setNZ s.a)

/-- `TXA`, 0x8A (R202): 1 byte, 2 cycles. -/
def execTxa (s : State) : Result :=
  complete 1 2 ((s.setA s.x).setNZ s.x)

/-- `TYA`, 0x98 (R203): 1 byte, 2 cycles. -/
def execTya (s : State) : Result :=
  complete 1 2 ((s.setA s.y).setNZ s.y)

/-- `TSX`, 0xBA (R204): 1 byte, 2 cycles. -/
def execTsx (s : State) : Result :=
  complete 1 2 ((s.setX s.sp).setNZ s.sp)

/-- `TXS`, 0x9A (R205): 1 byte, 2 cycles. -/
def execTxs (s : State) : Result :=
  complete 1 2 (s.setSp s.x)

end Sys2Proof.Machine
end

