-- ==== Sys2Proof/Machine/Execute.lean ====
section
/-! DEFINITION. Fetching and executing one instruction (spec/30_encoding.md R81, R82, R121; 60_exceptions.md R270, R271). -/

namespace Sys2Proof.Machine

/-- The bytes of the instruction at PC, as many as its opcode gives it (R86); addresses wrap modulo 2^16 (10_state.md R26).
Memory reads have no side effect (20_memory.md R57), so the operand bytes the resolver reads one by one are these (R65). -/
def State.fetchBytes (s : State) : List Byte :=
  (List.range (lengthOf (s.load s.pc))).map (fun k => s.load (s.pc + BitVec.ofNat 16 k))

/-- `ExecuteOne()` (R81): fetch and decode, then the instruction's meaning, which advances PC and adds its cycles. An opcode
with no entry raises InvalidOpcode (R121); a mode whose (mode, index) pair no operation defines raises InvalidOperand (R91,
R271), which the table never produces. -/
def State.executeOne (s : State) : Result :=
  match decode s.fetchBytes with
  | .error _ => .next (s.raise .invalidOpcode)
  | .instr i _ => if i.mode.pairDefined then exec i s else .next (s.raise .invalidOperand)

/-- Store bytes at consecutive addresses, which wrap modulo 2^16. -/
def State.storeBytes : List Byte → Addr → State → State
  | [], _, s => s
  | b :: bs, addr, s => State.storeBytes bs (addr + 1) (s.store addr b)

/-- What a state needs besides the instruction's bytes for its next step to run an instruction (R80): it is not halted and no
interrupt is due. A masked IRQ request stays. -/
def State.readyToFetch (s : State) : State :=
  { s with fault := none, nmiPending := false, irqPending := s.irqPending && s.p.i }

end Sys2Proof.Machine
end

