-- ==== Sys2Proof/Machine/Step.lean ====
section
/-! DEFINITION. One step of the machine: `Step()` (spec/30_encoding.md R80). -/

namespace Sys2Proof.Machine

/-- `Step()` (R80): halted, no transition; else an NMI entry, else an IRQ entry if I is 0, else one instruction. -/
def step (s : State) : Host.Outcome State Fault Refusal :=
  match s.fault with
  | some record => .fault (.halted record)
  | none =>
    if s.nmiPending then .next s.serviceNmi
    else if s.irqPending && !s.p.i then .next s.serviceIrq
    else s.executeOne

/-- `s` with the instruction of a table word stored at PC, and running: the next step fetches and executes it. -/
def State.withFetchWord (s : State) (nbits w : Nat) : State :=
  State.storeBytes (tableWordBytes nbits w) s.pc s.readyToFetch

end Sys2Proof.Machine
end

