-- ==== Sys2Proof/Machine/Environment.lean ====
section
/-! DEFINITION. The environment's side of the interface (spec/00_scope.md R6): its inward actions, taken at instruction
boundaries (60_exceptions.md R252, 70_reset_and_hazards.md R291). -/

namespace Sys2Proof.Machine

/-- The environment's inward actions (00_scope.md R6). -/
inductive Action where
  | reset
  | triggerInterrupt (maskable : Bool)
  | step
  deriving DecidableEq, Repr

/-- The state an action leaves. `Step()` of a halted block is no transition (10_state.md R39): the state stays. -/
def act (x : Action) (s : State) : State :=
  match x with
  | .reset => s.doReset
  | .triggerInterrupt maskable => s.triggerInterrupt maskable
  | .step =>
    match step s with
    | .next t => t
    | .fault _ => s
    | .refused _ => s

/-- The state a sequence of actions leaves, first action first. -/
def runActions : List Action → State → State
  | [], s => s
  | x :: xs, s => runActions xs (act x s)

/-- A run: the launch memory, the first `Reset()` (10_state.md R41), then actions. -/
def runFrom (launch : Memory) (actions : List Action) : State :=
  runActions actions (State.afterFirstReset launch)

end Sys2Proof.Machine
end

