-- ==== Sys2Proof/Safety.lean ====
section
/-! DEFINITION. What counts as a safe run, in the terms claims use. -/

namespace Sys2Proof.Machine

/-- The block runs: no fault is recorded (spec/10_state.md R39). -/
def State.running (s : State) : Prop := s.fault = none

/-- The next step executes an instruction: the block runs and no interrupt is due (30_encoding.md R80). -/
def State.executes (s : State) : Prop := s.running ∧ s.interruptDue = false

/-- The memory names `bytes` at consecutive addresses from `addr`, modulo 2^16. -/
def State.holds (s : State) (addr : Addr) (bytes : List Byte) : Prop :=
  ∀ k (h : k < bytes.length), s.load (addr + BitVec.ofNat 16 k) = bytes[k]

/-- What every state after the first Reset satisfies. -/
structure Inv (s : State) : Prop where
  /-- memory keeps its canonical form -/
  memWf : s.mem.wf = true
  /-- B is 1: Reset sets it and nothing clears it (10_state.md R34) -/
  breakSet : s.p.b = true
  /-- a recorded fault is an InvalidOpcode: its opcode has no decode-table entry and is the byte at the recorded address, and
  PC is one past that address (60_exceptions.md R270, R271) -/
  faultTrue : ∀ r, s.fault = some r →
    r.code = .invalidOpcode ∧ rowOf r.opcode = none ∧ s.load r.opcAddr = r.opcode ∧ s.pc = r.opcAddr + 1

/-- A test program has ended (70_reset_and_hazards.md R300): PC is at a `JMP` to its own address. -/
def State.atSelfJump (s : State) : Prop := s.holds s.pc [0x4C, loByte s.pc, hiByte s.pc]

end Sys2Proof.Machine
end

