-- ==== Sys2Proof/Certificates/Slice0/Obligations.lean ====
section
/-! DEFINITION. The statements for the provers, and the words they are written in. -/

namespace Sys2Proof.Claims

open Sys2Proof.Machine

/-! ## The forms of an instruction family: instruction, bytes, operand, cost -/

/-- A read-class form: the instruction, its bytes, the operand it reads in the state it is executed in, its cost. -/
structure ReadForm where
  instr : Instr
  bytes : List Byte
  operand : Byte
  cost : Cycles

/-- A write-class or read-modify-write-class form: the instruction, its bytes, the address it stores to, its cost. -/
structure StoreForm where
  instr : Instr
  bytes : List Byte
  addr : Addr
  cost : Cycles

/-- The page-crossing penalty (spec/30_encoding.md R106). -/
def pageCost (base : Addr) (index : Byte) : Cycles := if hiByte (base + zext16 index) = hiByte base then 0 else 1

/-- PC past the bytes of an instruction (R107). -/
def pcAfter (s : State) (bytes : List Byte) : Addr := s.pc + BitVec.ofNat 16 bytes.length

/-- The address S designates (10_state.md R25). -/
def stackByte (sp : Byte) : Addr := 0x0100 + zext16 sp

/-- ADC: the forms and costs of R140. -/
def adcForms (s : State) (b : Byte) (w : Addr) : List ReadForm := [
  ⟨.adcImm b, [0x69, b], b, 2⟩,
  ⟨.adcZp b, [0x65, b], s.load (eaZp b), 3⟩,
  ⟨.adcZpx b, [0x75, b], s.load (eaZpx b s), 4⟩,
  ⟨.adcAbs w, [0x6D, loByte w, hiByte w], s.load w, 4⟩,
  ⟨.adcAbx w, [0x7D, loByte w, hiByte w], s.load (eaAbx w s), 4 + pageCost w s.x⟩,
  ⟨.adcAby w, [0x79, loByte w, hiByte w], s.load (eaAby w s), 4 + pageCost w s.y⟩,
  ⟨.adcIzx b, [0x61, b], s.load (eaIzx b s), 6⟩,
  ⟨.adcIzy b, [0x71, b], s.load (eaIzy b s), 5 + pageCost (zpPointer b s) s.y⟩]

/-- SBC: the forms and costs of R141. -/
def sbcForms (s : State) (b : Byte) (w : Addr) : List ReadForm := [
  ⟨.sbcImm b, [0xE9, b], b, 2⟩,
  ⟨.sbcZp b, [0xE5, b], s.load (eaZp b), 3⟩,
  ⟨.sbcZpx b, [0xF5, b], s.load (eaZpx b s), 4⟩,
  ⟨.sbcAbs w, [0xED, loByte w, hiByte w], s.load w, 4⟩,
  ⟨.sbcAbx w, [0xFD, loByte w, hiByte w], s.load (eaAbx w s), 4 + pageCost w s.x⟩,
  ⟨.sbcAby w, [0xF9, loByte w, hiByte w], s.load (eaAby w s), 4 + pageCost w s.y⟩,
  ⟨.sbcIzx b, [0xE1, b], s.load (eaIzx b s), 6⟩,
  ⟨.sbcIzy b, [0xF1, b], s.load (eaIzy b s), 5 + pageCost (zpPointer b s) s.y⟩]

/-- AND: the forms and costs of R150. -/
def andForms (s : State) (b : Byte) (w : Addr) : List ReadForm := [
  ⟨.andImm b, [0x29, b], b, 2⟩,
  ⟨.andZp b, [0x25, b], s.load (eaZp b), 3⟩,
  ⟨.andZpx b, [0x35, b], s.load (eaZpx b s), 4⟩,
  ⟨.andAbs w, [0x2D, loByte w, hiByte w], s.load w, 4⟩,
  ⟨.andAbx w, [0x3D, loByte w, hiByte w], s.load (eaAbx w s), 4 + pageCost w s.x⟩,
  ⟨.andAby w, [0x39, loByte w, hiByte w], s.load (eaAby w s), 4 + pageCost w s.y⟩,
  ⟨.andIzx b, [0x21, b], s.load (eaIzx b s), 6⟩,
  ⟨.andIzy b, [0x31, b], s.load (eaIzy b s), 5 + pageCost (zpPointer b s) s.y⟩]

/-- ORA: the forms and costs of R151. -/
def oraForms (s : State) (b : Byte) (w : Addr) : List ReadForm := [
  ⟨.oraImm b, [0x09, b], b, 2⟩,
  ⟨.oraZp b, [0x05, b], s.load (eaZp b), 3⟩,
  ⟨.oraZpx b, [0x15, b], s.load (eaZpx b s), 4⟩,
  ⟨.oraAbs w, [0x0D, loByte w, hiByte w], s.load w, 4⟩,
  ⟨.oraAbx w, [0x1D, loByte w, hiByte w], s.load (eaAbx w s), 4 + pageCost w s.x⟩,
  ⟨.oraAby w, [0x19, loByte w, hiByte w], s.load (eaAby w s), 4 + pageCost w s.y⟩,
  ⟨.oraIzx b, [0x01, b], s.load (eaIzx b s), 6⟩,
  ⟨.oraIzy b, [0x11, b], s.load (eaIzy b s), 5 + pageCost (zpPointer b s) s.y⟩]

/-- EOR: the forms and costs of R152. -/
def eorForms (s : State) (b : Byte) (w : Addr) : List ReadForm := [
  ⟨.eorImm b, [0x49, b], b, 2⟩,
  ⟨.eorZp b, [0x45, b], s.load (eaZp b), 3⟩,
  ⟨.eorZpx b, [0x55, b], s.load (eaZpx b s), 4⟩,
  ⟨.eorAbs w, [0x4D, loByte w, hiByte w], s.load w, 4⟩,
  ⟨.eorAbx w, [0x5D, loByte w, hiByte w], s.load (eaAbx w s), 4 + pageCost w s.x⟩,
  ⟨.eorAby w, [0x59, loByte w, hiByte w], s.load (eaAby w s), 4 + pageCost w s.y⟩,
  ⟨.eorIzx b, [0x41, b], s.load (eaIzx b s), 6⟩,
  ⟨.eorIzy b, [0x51, b], s.load (eaIzy b s), 5 + pageCost (zpPointer b s) s.y⟩]

/-- BIT: the forms and costs of R153. -/
def bitForms (s : State) (b : Byte) (w : Addr) : List ReadForm := [
  ⟨.bitZp b, [0x24, b], s.load (eaZp b), 3⟩,
  ⟨.bitAbs w, [0x2C, loByte w, hiByte w], s.load w, 4⟩]

/-- CMP: the forms and costs of R171. -/
def cmpForms (s : State) (b : Byte) (w : Addr) : List ReadForm := [
  ⟨.cmpImm b, [0xC9, b], b, 2⟩,
  ⟨.cmpZp b, [0xC5, b], s.load (eaZp b), 3⟩,
  ⟨.cmpZpx b, [0xD5, b], s.load (eaZpx b s), 4⟩,
  ⟨.cmpAbs w, [0xCD, loByte w, hiByte w], s.load w, 4⟩,
  ⟨.cmpAbx w, [0xDD, loByte w, hiByte w], s.load (eaAbx w s), 4 + pageCost w s.x⟩,
  ⟨.cmpAby w, [0xD9, loByte w, hiByte w], s.load (eaAby w s), 4 + pageCost w s.y⟩,
  ⟨.cmpIzx b, [0xC1, b], s.load (eaIzx b s), 6⟩,
  ⟨.cmpIzy b, [0xD1, b], s.load (eaIzy b s), 5 + pageCost (zpPointer b s) s.y⟩]

/-- CPX: the forms and costs of R172. -/
def cpxForms (s : State) (b : Byte) (w : Addr) : List ReadForm := [
  ⟨.cpxImm b, [0xE0, b], b, 2⟩,
  ⟨.cpxZp b, [0xE4, b], s.load (eaZp b), 3⟩,
  ⟨.cpxAbs w, [0xEC, loByte w, hiByte w], s.load w, 4⟩]

/-- CPY: the forms and costs of R173. -/
def cpyForms (s : State) (b : Byte) (w : Addr) : List ReadForm := [
  ⟨.cpyImm b, [0xC0, b], b, 2⟩,
  ⟨.cpyZp b, [0xC4, b], s.load (eaZp b), 3⟩,
  ⟨.cpyAbs w, [0xCC, loByte w, hiByte w], s.load w, 4⟩]

/-- LDA: the forms and costs of R190. -/
def ldaForms (s : State) (b : Byte) (w : Addr) : List ReadForm := [
  ⟨.ldaImm b, [0xA9, b], b, 2⟩,
  ⟨.ldaZp b, [0xA5, b], s.load (eaZp b), 3⟩,
  ⟨.ldaZpx b, [0xB5, b], s.load (eaZpx b s), 4⟩,
  ⟨.ldaAbs w, [0xAD, loByte w, hiByte w], s.load w, 4⟩,
  ⟨.ldaAbx w, [0xBD, loByte w, hiByte w], s.load (eaAbx w s), 4 + pageCost w s.x⟩,
  ⟨.ldaAby w, [0xB9, loByte w, hiByte w], s.load (eaAby w s), 4 + pageCost w s.y⟩,
  ⟨.ldaIzx b, [0xA1, b], s.load (eaIzx b s), 6⟩,
  ⟨.ldaIzy b, [0xB1, b], s.load (eaIzy b s), 5 + pageCost (zpPointer b s) s.y⟩]

/-- LDX: the forms and costs of R191. -/
def ldxForms (s : State) (b : Byte) (w : Addr) : List ReadForm := [
  ⟨.ldxImm b, [0xA2, b], b, 2⟩,
  ⟨.ldxZp b, [0xA6, b], s.load (eaZp b), 3⟩,
  ⟨.ldxZpy b, [0xB6, b], s.load (eaZpy b s), 4⟩,
  ⟨.ldxAbs w, [0xAE, loByte w, hiByte w], s.load w, 4⟩,
  ⟨.ldxAby w, [0xBE, loByte w, hiByte w], s.load (eaAby w s), 4 + pageCost w s.y⟩]

/-- LDY: the forms and costs of R192. -/
def ldyForms (s : State) (b : Byte) (w : Addr) : List ReadForm := [
  ⟨.ldyImm b, [0xA0, b], b, 2⟩,
  ⟨.ldyZp b, [0xA4, b], s.load (eaZp b), 3⟩,
  ⟨.ldyZpx b, [0xB4, b], s.load (eaZpx b s), 4⟩,
  ⟨.ldyAbs w, [0xAC, loByte w, hiByte w], s.load w, 4⟩,
  ⟨.ldyAbx w, [0xBC, loByte w, hiByte w], s.load (eaAbx w s), 4 + pageCost w s.x⟩]

/-- STA: the forms and costs of R193. -/
def staForms (s : State) (b : Byte) (w : Addr) : List StoreForm := [
  ⟨.staZp b, [0x85, b], eaZp b, 3⟩,
  ⟨.staZpx b, [0x95, b], eaZpx b s, 4⟩,
  ⟨.staAbs w, [0x8D, loByte w, hiByte w], w, 4⟩,
  ⟨.staAbx w, [0x9D, loByte w, hiByte w], eaAbx w s, 5⟩,
  ⟨.staAby w, [0x99, loByte w, hiByte w], eaAby w s, 5⟩,
  ⟨.staIzx b, [0x81, b], eaIzx b s, 6⟩,
  ⟨.staIzy b, [0x91, b], eaIzy b s, 6⟩]

/-- STX: the forms and costs of R194. -/
def stxForms (s : State) (b : Byte) (w : Addr) : List StoreForm := [
  ⟨.stxZp b, [0x86, b], eaZp b, 3⟩,
  ⟨.stxZpy b, [0x96, b], eaZpy b s, 4⟩,
  ⟨.stxAbs w, [0x8E, loByte w, hiByte w], w, 4⟩]

/-- STY: the forms and costs of R195. -/
def styForms (s : State) (b : Byte) (w : Addr) : List StoreForm := [
  ⟨.styZp b, [0x84, b], eaZp b, 3⟩,
  ⟨.styZpx b, [0x94, b], eaZpx b s, 4⟩,
  ⟨.styAbs w, [0x8C, loByte w, hiByte w], w, 4⟩]

/-- ASL: the forms and costs of R160. -/
def aslForms (s : State) (b : Byte) (w : Addr) : List StoreForm := [
  ⟨.aslZp b, [0x06, b], eaZp b, 5⟩,
  ⟨.aslZpx b, [0x16, b], eaZpx b s, 6⟩,
  ⟨.aslAbs w, [0x0E, loByte w, hiByte w], w, 6⟩,
  ⟨.aslAbx w, [0x1E, loByte w, hiByte w], eaAbx w s, 7⟩]

/-- LSR: the forms and costs of R161. -/
def lsrForms (s : State) (b : Byte) (w : Addr) : List StoreForm := [
  ⟨.lsrZp b, [0x46, b], eaZp b, 5⟩,
  ⟨.lsrZpx b, [0x56, b], eaZpx b s, 6⟩,
  ⟨.lsrAbs w, [0x4E, loByte w, hiByte w], w, 6⟩,
  ⟨.lsrAbx w, [0x5E, loByte w, hiByte w], eaAbx w s, 7⟩]

/-- ROL: the forms and costs of R162. -/
def rolForms (s : State) (b : Byte) (w : Addr) : List StoreForm := [
  ⟨.rolZp b, [0x26, b], eaZp b, 5⟩,
  ⟨.rolZpx b, [0x36, b], eaZpx b s, 6⟩,
  ⟨.rolAbs w, [0x2E, loByte w, hiByte w], w, 6⟩,
  ⟨.rolAbx w, [0x3E, loByte w, hiByte w], eaAbx w s, 7⟩]

/-- ROR: the forms and costs of R163. -/
def rorForms (s : State) (b : Byte) (w : Addr) : List StoreForm := [
  ⟨.rorZp b, [0x66, b], eaZp b, 5⟩,
  ⟨.rorZpx b, [0x76, b], eaZpx b s, 6⟩,
  ⟨.rorAbs w, [0x6E, loByte w, hiByte w], w, 6⟩,
  ⟨.rorAbx w, [0x7E, loByte w, hiByte w], eaAbx w s, 7⟩]

/-- INC: the forms and costs of R180. -/
def incForms (s : State) (b : Byte) (w : Addr) : List StoreForm := [
  ⟨.incZp b, [0xE6, b], eaZp b, 5⟩,
  ⟨.incZpx b, [0xF6, b], eaZpx b s, 6⟩,
  ⟨.incAbs w, [0xEE, loByte w, hiByte w], w, 6⟩,
  ⟨.incAbx w, [0xFE, loByte w, hiByte w], eaAbx w s, 7⟩]

/-- DEC: the forms and costs of R181. -/
def decForms (s : State) (b : Byte) (w : Addr) : List StoreForm := [
  ⟨.decZp b, [0xC6, b], eaZp b, 5⟩,
  ⟨.decZpx b, [0xD6, b], eaZpx b s, 6⟩,
  ⟨.decAbs w, [0xCE, loByte w, hiByte w], w, 6⟩,
  ⟨.decAbx w, [0xDE, loByte w, hiByte w], eaAbx w s, 7⟩]

/-- The 105 illegal opcode bytes, as 30_encoding.md R121 lists them. -/
def illegalOpcodes : List Byte := [
  0x02, 0x03, 0x04, 0x07, 0x0B, 0x0C, 0x0F, 0x12, 0x13, 0x14, 0x17, 0x1A, 0x1B, 0x1C, 0x1F,
  0x22, 0x23, 0x27, 0x2B, 0x2F, 0x32, 0x33, 0x34, 0x37, 0x3A, 0x3B, 0x3C, 0x3F, 0x42, 0x43,
  0x44, 0x47, 0x4B, 0x4F, 0x52, 0x53, 0x54, 0x57, 0x5A, 0x5B, 0x5C, 0x5F, 0x62, 0x63, 0x64,
  0x67, 0x6B, 0x6F, 0x72, 0x73, 0x74, 0x77, 0x7A, 0x7B, 0x7C, 0x7F, 0x80, 0x82, 0x83, 0x87,
  0x89, 0x8B, 0x8F, 0x92, 0x93, 0x97, 0x9B, 0x9C, 0x9E, 0x9F, 0xA3, 0xA7, 0xAB, 0xAF, 0xB2,
  0xB3, 0xB7, 0xBB, 0xBF, 0xC2, 0xC3, 0xC7, 0xCB, 0xCF, 0xD2, 0xD3, 0xD4, 0xD7, 0xDA, 0xDB,
  0xDC, 0xDF, 0xE2, 0xE3, 0xE7, 0xEB, 0xEF, 0xF2, 0xF3, 0xF4, 0xF7, 0xFA, 0xFB, 0xFC, 0xFF]

/-! ## Rules that several instructions share -/

/-- `SetNZ(r)` (00_scope.md R10). -/
def withNZ (r : Byte) (p : Status) : Status := { p with n := r.getLsbD 7, z := decide (r = 0) }

/-- Completes, stores `v` at the form's address and nowhere else, leaves status `p`, and changes nothing else. -/
def StoresByte (s : State) (f : StoreForm) (v : Byte) (p : Status) : Prop :=
  encode f.instr = f.bytes ∧
  ∃ t, exec f.instr s = .next t ∧ t.load f.addr = v ∧ (∀ addr, addr ≠ f.addr → t.load addr = s.load addr) ∧
    t = { s with p := p, mem := t.mem, pc := pcAfter s f.bytes, cycles := s.cycles + f.cost }

/-- Completes, leaves status `p`, and changes nothing else but PC and the counter. -/
def SetsFlagsOnly (s : State) (f : ReadForm) (p : Status) : Prop :=
  encode f.instr = f.bytes ∧
  exec f.instr s = .next { s with p := p, pc := pcAfter s f.bytes, cycles := s.cycles + f.cost }

/-- Completes, writes `r` to A, leaves status `p`, and changes nothing else but PC and the counter. -/
def WritesA (s : State) (f : ReadForm) (r : Byte) (p : Status) : Prop :=
  encode f.instr = f.bytes ∧
  exec f.instr s = .next { s with a := r, p := p, pc := pcAfter s f.bytes, cycles := s.cycles + f.cost }

/-- The status a shift or rotate leaves: N and Z from the result, C the bit shifted out. -/
def shiftStatus (r : Byte) (out : Bool) (p : Status) : Status := { withNZ r p with c := out }

/-- A shift or rotate (42_shift_rotate.md): on A in the accumulator mode, on one byte of memory in the others. `result` takes
the old C and the operand; `out` is the bit shifted out. -/
def ShiftRule (acc : Instr) (opcode : Byte) (forms : State → Byte → Addr → List StoreForm)
    (result : Bool → Byte → Byte) (out : Byte → Bool) : Prop :=
  (∀ s : State, encode acc = [opcode] ∧
    exec acc s = .next { s with
      a := result s.p.c s.a, p := shiftStatus (result s.p.c s.a) (out s.a) s.p, pc := s.pc + 1, cycles := s.cycles + 2 }) ∧
  (∀ (s : State) (b : Byte) (w : Addr), s.mem.wf = true → ∀ f ∈ forms s b w,
    StoresByte s f (result s.p.c (s.load f.addr))
      (shiftStatus (result s.p.c (s.load f.addr)) (out (s.load f.addr)) s.p))

/-- The target of a branch (49_branch_flags_nop.md R230, 30_encoding.md R104), on integers. -/
def branchTarget (s : State) (d : Byte) : Addr := BitVec.ofInt 16 ((s.pc.toNat : Int) + 2 + d.toInt)

/-- `Branch(cond)` (R230). -/
def BranchRule (make : Byte → Instr) (opcode : Byte) (cond : Status → Bool) : Prop :=
  ∀ (s : State) (d : Byte), encode (make d) = [opcode, d] ∧
    (cond s.p = true → exec (make d) s = .next { s with
      pc := branchTarget s d
      cycles := s.cycles + 2 + 1 + (if hiByte (branchTarget s d) = hiByte (s.pc + 2) then 0 else 1) }) ∧
    (cond s.p = false → exec (make d) s = .next { s with pc := s.pc + 2, cycles := s.cycles + 2 })

/-- An implied-mode instruction of one byte and two cycles that leaves `after s`, PC and the counter apart. -/
def ImpliedRule (i : Instr) (opcode : Byte) (after : State → State) : Prop :=
  ∀ s : State, encode i = [opcode] ∧
    exec i s = .next { after s with pc := s.pc + 1, cycles := s.cycles + 2 }

/-- The three bytes an entry pushes (60_exceptions.md R256), and nothing else of memory. -/
def PushedFrame (s t : State) (ret : Addr) (b : Bool) : Prop :=
  t.load (stackByte s.sp) = hiByte ret ∧ t.load (stackByte (s.sp - 1)) = loByte ret ∧
  t.load (stackByte (s.sp - 2)) = s.p.pushed b ∧
  ∀ addr, addr ≠ stackByte s.sp → addr ≠ stackByte (s.sp - 1) → addr ≠ stackByte (s.sp - 2) → t.load addr = s.load addr

/-- Memory outside the three bytes an entry in `s` stacks is as in `s`. -/
def StackedBytesOnly (s t : State) : Prop :=
  ∀ addr, addr ≠ stackByte s.sp → addr ≠ stackByte (s.sp - 1) → addr ≠ stackByte (s.sp - 2) → t.load addr = s.load addr

/-- An instruction that pushes one byte (47_stack.md R210). -/
def PushRule (i : Instr) (opcode : Byte) (v : State → Byte) : Prop :=
  ∀ s : State, s.mem.wf = true → encode i = [opcode] ∧
    ∃ t, exec i s = .next t ∧ t.load (stackByte s.sp) = v s ∧
      (∀ addr, addr ≠ stackByte s.sp → t.load addr = s.load addr) ∧
      t = { s with sp := s.sp - 1, mem := t.mem, pc := s.pc + 1, cycles := s.cycles + 3 }

/-- The operations that push. -/
def pushers : List Op := [.PHA, .PHP, .JSR, .BRK]

/-- The operations that branch. -/
def branchOps : List Op := [.BCC, .BCS, .BEQ, .BNE, .BMI, .BPL, .BVC, .BVS]

/-- The bytes of an instruction's operand, zero where it has none. -/
def operandByte (k : Nat) (i : Instr) : Byte := (encode i).getD (k + 1) 0

/-- `Resolve` on an instruction at PC (30_encoding.md R95). -/
def resolved (i : Instr) (s : State) : EffAddr × Bool := resolve i.mode (operandByte 0 i) (operandByte 1 i) s

/-- Whether a branch operation's condition holds (49_branch_flags_nop.md R231 to R238); false for every other operation. -/
def branchTaken (op : Op) (p : Status) : Bool :=
  match op with
  | .BCC => !p.c
  | .BCS => p.c
  | .BEQ => p.z
  | .BNE => !p.z
  | .BMI => p.n
  | .BPL => !p.n
  | .BVC => !p.v
  | .BVS => p.v
  | _ => false

/-- `n` ROLs of A, as `exec` does them. -/
def rolTimes : Nat → State → Result
  | 0, s => .next s
  | n + 1, s =>
    match exec .rolAcc s with
    | .next t => rolTimes n t
    | other => other

end Sys2Proof.Claims

open Sys2Proof Sys2Proof.Machine Sys2Proof.Claims

/-! # Encoding -/

/-- Decoding an encoded instruction gives it back, with every operand at every value, and the bytes after it (30_encoding.md
R85, R110; the table is the spec's choice D32). -/
def Obligations.DecodeReadsBackEveryEncoding : Prop :=
  ∀ (i : Instr) (rest : List Byte), decode (encode i ++ rest) = .instr i rest

/-- Bytes that decode are the encoding of what they decode to: no two byte strings stand for one instruction, and no bit is
ignored. -/
def Obligations.DecodedBytesAreTheEncoding : Prop :=
  ∀ (bytes : List Byte) (i : Instr) (rest : List Byte), decode bytes = .instr i rest → bytes = encode i ++ rest

/-- Words written out from the "Encoding" lines of the rules decode to their instructions. -/
def Obligations.FamilyWordsDecode : Prop :=
  decode [0b01111101, 0b11111111, 0b00100000] = .instr (.adcAbx 0x20FF) [] ∧
  decode [0b00101100, 0b00000000, 0b00010000] = .instr (.bitAbs 0x1000) [] ∧
  decode [0b01101110, 0b00110100, 0b00010010] = .instr (.rorAbs 0x1234) [] ∧
  decode [0b11000000, 0b00100000] = .instr (.cpyImm 0x20) [] ∧
  decode [0b11010110, 0b00010000] = .instr (.decZpx 0x10) [] ∧
  decode [0b10010110, 0b11111111] = .instr (.stxZpy 0xFF) [] ∧
  decode [0b10111010] = .instr .tsx [] ∧
  decode [0b00101000] = .instr .plp [] ∧
  decode [0b01101100, 0b11111111, 0b00010000] = .instr (.jmpInd 0x10FF) [] ∧
  decode [0b11010000, 0b11111000] = .instr (.bne 0xF8) [] ∧
  decode [0b10111000] = .instr .clv []

/-- The 105 bytes R121 lists, and no others, have no decode-table entry, and the decoder refuses each by name. -/
def Obligations.IllegalOpcodesAreTheListedOnes : Prop :=
  illegalOpcodes.length = 105 ∧
  ∀ (opcode : Byte) (rest : List Byte),
    decode (opcode :: rest) = .error (.invalidOpcode opcode) ↔ opcode ∈ illegalOpcodes

/-- The decode table has 151 rows (30_encoding.md R110) and never produces an invalid (mode, index) pair (R91; 60_exceptions.md
R271). The other clauses rest on what the spec chose: each row's mode is one its operation's "Operands" line and R112 list
(the assignment of R112 is the spec's choice D32), its penalty kind is that of R106 (which instructions take the penalty is
the spec's choice D6), and it costs at least two cycles (the base counts of R112 are the spec's choice D5). -/
def Obligations.DecodeTableRowsAreWellFormed : Prop :=
  decodeRows.flatten.length = 151 ∧ ∀ r ∈ decodeRows.flatten, r.desc.wf = true ∧ r.desc.mode.pairDefined = true

/-! # The step -/

/-- When the bytes at PC decode to a well-formed instruction and the block executes, the step is that instruction's `exec`, at
that same state: `exec` itself moves PC past the instruction's bytes and adds its cycles. -/
def Obligations.StepExecutesDecodedInstruction : Prop :=
  ∀ (s : State) (i : Instr) (rest : List Byte),
    s.executes → decode s.fetchBytes = .instr i rest → i.wf = true → step s = exec i s

/-- An instruction's bytes in memory at PC, wrapping modulo 2^16, are fetched and executed (30_encoding.md R81, 10_state.md
R26). -/
def Obligations.StepExecutesEncodedInstruction : Prop :=
  ∀ (s : State) (i : Instr), s.executes → s.holds s.pc (encode i) → step s = exec i s

/-- A running block always has a next state, and a step never refuses: the only stop is the halt after a fault. -/
def Obligations.StepStopsOnlyWhenHalted : Prop :=
  ∀ s : State,
    (s.fault = none → ∃ t, step s = .next t) ∧
    (∀ r, s.fault = some r → step s = .fault (.halted r) ∧ act .step s = s)

/-- Fetching a byte with no decode-table entry raises InvalidOpcode (30_encoding.md R121, 60_exceptions.md R270; the state
after the fault is the spec's choice D21): PC one past the opcode, the fault recorded with code 1, nothing else changed; and
the block is then halted until Reset. -/
def Obligations.IllegalOpcodeRecordsFaultAndHalts : Prop :=
  ∀ s : State, s.executes → s.load s.pc ∈ illegalOpcodes →
    ∃ t, step s = .next t ∧
      t = { s with pc := s.pc + 1, fault := some ⟨.invalidOpcode, s.load s.pc, s.pc⟩ } ∧
      t.faultNumber = 1 ∧ act .step t = t ∧ (act .reset t).fault = none

/-! # Interrupts -/

/-- NMI service: whatever I holds, and before an IRQ that is also pending, which stays pending (60_exceptions.md R254, R256,
R257; D1 makes the entry a step of its own, D12 leaves the other flags). -/
def Obligations.NmiEntryPushesAndVectors : Prop :=
  ∀ s : State, s.mem.wf = true → s.running → s.nmiPending = true →
    ∃ t, step s = .next t ∧ PushedFrame s t s.pc false ∧
      t = { s with
        sp := s.sp - 3, p := { s.p with i := true }, pc := wordOf (s.load 0xFFFB) (s.load 0xFFFA), mem := t.mem
        cycles := s.cycles + 7, nmiPending := false }

/-- IRQ service: when no NMI is pending and I is 0 (R255, R256). -/
def Obligations.IrqEntryPushesAndVectors : Prop :=
  ∀ s : State, s.mem.wf = true → s.running → s.nmiPending = false → s.irqPending = true → s.p.i = false →
    ∃ t, step s = .next t ∧ PushedFrame s t s.pc false ∧
      t = { s with
        sp := s.sp - 3, p := { s.p with i := true }, pc := wordOf (s.load 0xFFFF) (s.load 0xFFFE), mem := t.mem
        cycles := s.cycles + 7, irqPending := false }

/-- While I is 1 an IRQ request stays pending and the step executes an instruction instead (R255). -/
def Obligations.MaskedIrqStaysPending : Prop :=
  ∀ s : State, s.running → s.nmiPending = false → s.irqPending = true → s.p.i = true →
    ∃ t, step s = .next t ∧ s.executeOne = .next t ∧ t.irqPending = true

/-- CLI lets a pending IRQ in at the very next boundary, and SEI masks one from the very next boundary (49_branch_flags_nop.md
R242, R243; 70_reset_and_hazards.md R295; the spec's choice D20). -/
def Obligations.MaskChangesActAtNextBoundary : Prop :=
  ∀ s : State, s.running → s.nmiPending = false → s.irqPending = true →
    (∃ t, exec .cli s = .next t ∧ step t = .next t.serviceIrq) ∧
    (∃ t, exec .sei s = .next t ∧ step t = t.executeOne)

/-- `TriggerInterrupt` sets its flag and nothing else, and a second request before service is absorbed (10_state.md R38,
60_exceptions.md R252). -/
def Obligations.TriggerInterruptLatchesRequest : Prop :=
  ∀ (s : State) (m : Bool),
    act (.triggerInterrupt m) s =
      { s with irqPending := s.irqPending || m, nmiPending := s.nmiPending || !m } ∧
    act (.triggerInterrupt m) (act (.triggerInterrupt m) s) = act (.triggerInterrupt m) s

/-- RTI undoes an interrupt entry: it resumes at the pushed address with the interrupted status, I among it, and the
registers and the stack pointer as they were; after BRK it resumes at the address of BRK plus 2 (60_exceptions.md R260). No
byte of memory but the three the entry stacked differs (R256, 48_control_transfer.md R224). Cycle counts are the spec's choice
D5; that bits 4 and 5 of the pulled byte are discarded is its choice D9. -/
def Obligations.RtiResumesWhatWasInterrupted : Prop :=
  ∀ s : State, s.mem.wf = true →
    (∃ t, exec .rti s.serviceNmi = .next t ∧ StackedBytesOnly s t ∧
      t = { s with mem := t.mem, cycles := s.cycles + 13, nmiPending := false }) ∧
    (∃ t, exec .rti s.serviceIrq = .next t ∧ StackedBytesOnly s t ∧
      t = { s with mem := t.mem, cycles := s.cycles + 13, irqPending := false }) ∧
    (∃ u t, exec .brk s = .next u ∧ exec .rti u = .next t ∧ StackedBytesOnly s t ∧
      t = { s with mem := t.mem, cycles := s.cycles + 13, pc := s.pc + 2 })

/-- The vector table (20_memory.md R60): NMI entry, Reset, IRQ entry and BRK load PC from their vectors, low byte first, and
none of them writes the table. -/
def Obligations.EntriesReadTheirVectors : Prop :=
  ∀ s : State,
    let read16 (v : Addr) : Addr := wordOf (s.load (v + 1)) (s.load v)
    let keepsTable (t : State) : Prop := ∀ addr : Addr, 0xFFFA ≤ addr.toNat → t.load addr = s.load addr
    (s.running → s.nmiPending = true → ∃ t, step s = .next t ∧ t.pc = read16 0xFFFA ∧ keepsTable t) ∧
    (act .reset s).pc = read16 0xFFFC ∧ keepsTable (act .reset s) ∧
    (s.running → s.nmiPending = false → s.irqPending = true → s.p.i = false →
      ∃ t, step s = .next t ∧ t.pc = read16 0xFFFE ∧ keepsTable t) ∧
    (∃ t, exec .brk s = .next t ∧ t.pc = read16 0xFFFE ∧ keepsTable t)

/-! # Reset -/

/-- `Reset()` (70_reset_and_hazards.md R290), from any state; the status byte is 0x36. -/
def Obligations.ResetReinitialises : Prop :=
  ∀ s : State, ∃ t, act .reset s = t ∧ t.p.toByte = 0x36 ∧
    t = { s with
      a := 0x00, x := 0x00, y := 0x00, sp := 0xFF
      p := { n := false, v := false, b := true, d := false, i := true, z := true, c := false }
      pc := wordOf (s.load 0xFFFD) (s.load 0xFFFC), cycles := s.cycles + 7, fault := none }

/-- The state right after the first Reset, from the all-zero launch memory (log entries 2 and 3; the zero image is the
model's DESIGN CHOICE): the values of 10_state.md R40. -/
def Obligations.ResetStateHoldsListedValues : Prop :=
  State.reset = State.afterFirstReset [] ∧
  State.reset.a = 0x00 ∧ State.reset.x = 0x00 ∧ State.reset.y = 0x00 ∧ State.reset.sp = 0xFF ∧
  State.reset.p.toByte = 0x36 ∧ State.reset.pc = 0x0000 ∧ State.reset.cycles = 7 ∧
  State.reset.irqPending = false ∧ State.reset.nmiPending = false ∧ State.reset.fault = none ∧ State.reset.mem = []

/-! # Invariants -/

/-- Every step keeps the invariant: memory stays in canonical form, B stays 1 (10_state.md R34), and a recorded fault is an
InvalidOpcode that names an illegal byte still standing at the recorded address, with PC one past it (R39, R270). -/
def Obligations.StepKeepsInvariant : Prop :=
  ∀ s t : State, Inv s → step s = .next t → Inv t

/-- The reset state meets the invariant. -/
def Obligations.ResetMeetsInvariant : Prop := Inv State.reset

/-- Every run keeps the invariant: from any launch memory, the first Reset and then any actions of the environment, Reset,
requests and steps, in any order (10_state.md R41, 00_scope.md R6). -/
def Obligations.EveryRunMeetsInvariant : Prop :=
  ∀ (launch : Memory) (actions : List Action), launch.wf = true → Inv (runFrom launch actions)

/-! # Rules over all instructions -/

/-- Every instruction completes, in every state, at the cost of its decode-table row: base count, page-crossing penalty where
the row has one, branch cycles (30_encoding.md R81, R83, R106, R112; the counts are the spec's choice D5). -/
def Obligations.EveryInstructionCompletesAtTableCost : Prop :=
  ∀ (i : Instr) (s : State), ∃ r t, rowOf ((encode i).headD 0) = some r ∧ exec i s = .next t ∧
    t.cycles = s.cycles + BitVec.ofNat 64 r.desc.base
      + (if r.desc.penalty = .page ∧ (resolved i s).2 = true then 1 else 0)
      + (if branchTaken i.op s.p = true then (if hiByte t.pc = hiByte (s.pc + 2) then 1 else 2) else 0)

/-- No exception but InvalidOpcode. First clause (60_exceptions.md R251): every instruction completes in every state, whatever
its operands, addresses and stack pointer, and records no fault. Second clause (30_encoding.md R121, 60_exceptions.md R270): a
step that records a fault records InvalidOpcode, with the opcode fetched and its address, of an opcode R121 lists; what is
recorded is the spec's choice D21, and which opcodes are illegal its choice D32. -/
def Obligations.OnlyInvalidOpcodeIsRaised : Prop :=
  (∀ (i : Instr) (s : State), ∃ t, exec i s = .next t ∧ t.fault = s.fault) ∧
  (∀ (s t : State) (r : FaultRecord), s.running → step s = .next t → t.fault = some r →
    r.code = .invalidOpcode ∧ r.opcode = s.load s.pc ∧ r.opcAddr = s.pc ∧ r.opcode ∈ illegalOpcodes)

/-- An instruction that does not transfer control leaves PC past its bytes, as many as its mode gives it, modulo 2^16
(30_encoding.md R107). -/
def Obligations.PcAdvancesByInstructionLength : Prop :=
  ∀ (i : Instr) (s : State), i.op ∉ [Op.JMP, .JSR, .RTS, .RTI, .BRK] → branchTaken i.op s.p = false →
    ∃ t, exec i s = .next t ∧ t.pc = s.pc + BitVec.ofNat 16 i.mode.length

/-- No instruction writes the pending flags, and none writes B (10_state.md R34, R38; B as a stored bit that pulls do not write
is the spec's choice D9). -/
def Obligations.InstructionsLeavePendingAndBreak : Prop :=
  ∀ (i : Instr) (s t : State), exec i s = .next t →
    t.irqPending = s.irqPending ∧ t.nmiPending = s.nmiPending ∧ t.p.b = s.p.b

/-- No instruction reads the pending flags or the cycle counter: with other values there, it does the same, and adds the same
cycles (10_state.md R38; 60_exceptions.md R274, "readable at boundaries by the environment and by no instruction"). -/
def Obligations.InstructionsDoNotReadCounterOrPending : Prop :=
  ∀ (i : Instr) (s : State) (n : Cycles) (q m : Bool), ∃ t, exec i s = .next t ∧
    exec i { s with cycles := n, irqPending := q, nmiPending := m } =
      .next { t with cycles := n + (t.cycles - s.cycles), irqPending := q, nmiPending := m }

/-- D has no effect but in the bytes PHP and BRK push (10_state.md R32, 40_arithmetic.md R142): every other instruction that
does not itself write D does the same with D either way. -/
def Obligations.DecimalFlagAffectsOnlyPushes : Prop :=
  ∀ (i : Instr) (s : State) (d : Bool), i.op ∉ [Op.PHP, .BRK, .CLD, .SED, .PLP, .RTI] → ∃ t, exec i s = .next t ∧
    exec i { s with p := { s.p with d := d } } = .next { t with p := { t.p with d := d } }

/-- A, X, Y and S are written by the instructions 10_state.md R22 to R25 list, and by no others; the shifts write A only in
the accumulator mode. -/
def Obligations.RegistersHaveOnlyListedWriters : Prop :=
  ∀ (i : Instr) (s t : State), exec i s = .next t →
    (i.op ∉ [Op.LDA, .ADC, .SBC, .AND, .ORA, .EOR, .TXA, .TYA, .PLA] → i.mode ≠ .ACC → t.a = s.a) ∧
    (i.op ∉ [Op.LDX, .TAX, .TSX, .INX, .DEX] → t.x = s.x) ∧
    (i.op ∉ [Op.LDY, .TAY, .INY, .DEY] → t.y = s.y) ∧
    (i.op ∉ [Op.TXS, .PHA, .PHP, .PLA, .PLP, .JSR, .RTS, .RTI, .BRK] → t.sp = s.sp)

/-- Each flag is written by the instructions 10_state.md R29 to R35 list, and by no others (the lists are the spec's choice
D37). -/
def Obligations.FlagsHaveOnlyListedWriters : Prop :=
  ∀ (i : Instr) (s t : State), exec i s = .next t →
    (i.op ∉ [Op.ADC, .SBC, .ASL, .LSR, .ROL, .ROR, .CMP, .CPX, .CPY, .CLC, .SEC, .PLP, .RTI] → t.p.c = s.p.c) ∧
    (i.op ∉ [Op.ADC, .SBC, .AND, .ORA, .EOR, .BIT, .ASL, .LSR, .ROL, .ROR, .CMP, .CPX, .CPY, .INC, .DEC, .INX, .INY,
        .DEX, .DEY, .LDA, .LDX, .LDY, .TAX, .TAY, .TXA, .TYA, .TSX, .PLA, .PLP, .RTI] →
      t.p.z = s.p.z ∧ t.p.n = s.p.n) ∧
    (i.op ∉ [Op.SEI, .CLI, .PLP, .RTI, .BRK] → t.p.i = s.p.i) ∧
    (i.op ∉ [Op.SED, .CLD, .PLP, .RTI] → t.p.d = s.p.d) ∧
    (i.op ∉ [Op.ADC, .SBC, .BIT, .CLV, .PLP, .RTI] → t.p.v = s.p.v)

/-- Memory is changed only by stores, read-modify-writes and pushes. A store or a read-modify-write changes no byte but the
one at its effective address, resolved before the instruction; a push changes no byte outside the stack page (20_memory.md
R58, R61; 30_encoding.md R105). -/
def Obligations.MemoryChangesOnlyWhereStored : Prop :=
  ∀ (i : Instr) (s t : State), exec i s = .next t →
    (i.op.writeClass = false → i.op.rmwClass = false → i.op ∉ pushers → t.mem = s.mem) ∧
    (i.mode = .ACC → t.mem = s.mem) ∧
    (∀ ea, i.op.writeClass = true ∨ i.op.rmwClass = true → (resolved i s).1 = .mem ea →
      ∀ addr, addr ≠ ea → t.load addr = s.load addr) ∧
    (i.op ∈ pushers → ∀ addr, hiByte addr ≠ 0x01 → t.load addr = s.load addr)

/-! # Arithmetic -/

/-- ADC (40_arithmetic.md R140). Opcode bytes, cycle counts and flag lists are the spec's choices D32, D5 and D37. -/
def Obligations.AdcAddsOperandAndCarry : Prop :=
  ∀ (s : State) (b : Byte) (w : Addr), ∀ f ∈ adcForms s b w,
    let sum := s.a.toNat + f.operand.toNat + s.p.c.toNat
    let r : Byte := BitVec.ofNat 8 sum
    WritesA s f r { withNZ r s.p with
      c := decide (sum > 255), v := ((s.a ^^^ r) &&& (f.operand ^^^ r)).getLsbD 7 }

/-- SBC (R141). Opcode bytes, cycle counts and flag lists are the spec's choices D32, D5 and D37. -/
def Obligations.SbcSubtractsOperandAndBorrow : Prop :=
  ∀ (s : State) (b : Byte) (w : Addr), ∀ f ∈ sbcForms s b w,
    let diff : Int := (s.a.toNat : Int) - f.operand.toNat - (1 - s.p.c.toNat)
    let r : Byte := BitVec.ofInt 8 diff
    WritesA s f r { withNZ r s.p with
      c := decide (diff ≥ 0), v := ((s.a ^^^ f.operand) &&& (s.a ^^^ r)).getLsbD 7 }

/-- V after ADC and after SBC is signed overflow: the exact signed result does not fit in eight bits (R140, "signed
overflow", and R144, two's complement). -/
def Obligations.OverflowIsSignedOverflow : Prop :=
  ∀ (s : State) (m : Byte), ∃ t u, exec (.adcImm m) s = .next t ∧ exec (.sbcImm m) s = .next u ∧
    (t.p.v = true ↔
      s.a.toInt + m.toInt + s.p.c.toNat < -128 ∨ 127 < s.a.toInt + m.toInt + s.p.c.toNat) ∧
    (u.p.v = true ↔
      s.a.toInt - m.toInt - (1 - s.p.c.toNat) < -128 ∨ 127 < s.a.toInt - m.toInt - (1 - s.p.c.toNat))

/-- SBC of an operand is ADC of its complement with the same carry in, bit for bit in the whole state (R141, which marks this
as derived). -/
def Obligations.SbcIsAdcOfComplement : Prop :=
  ∀ (s : State) (m : Byte), ∃ t, exec (.sbcImm m) s = .next t ∧ exec (.adcImm (m ^^^ 0xFF)) s = .next t

/-- With C = 0 before ADC and C = 1 before SBC of the same operand, A returns to its value, with overflow or without (R143). -/
def Obligations.AdcThenSbcRestoresA : Prop :=
  ∀ (s : State) (m : Byte), s.p.c = false →
    ∃ t u v, exec (.adcImm m) s = .next t ∧ exec .sec t = .next u ∧ exec (.sbcImm m) u = .next v ∧ v.a = s.a

/-! # Logical, shift, compare -/

/-- AND, ORA and EOR (41_logical.md R150, R151, R152). Opcode bytes, cycle counts and flag lists are the spec's choices
D32, D5 and D37. -/
def Obligations.LogicalOperationsWriteA : Prop :=
  ∀ (s : State) (b : Byte) (w : Addr),
    (∀ f ∈ andForms s b w, WritesA s f (s.a &&& f.operand) (withNZ (s.a &&& f.operand) s.p)) ∧
    (∀ f ∈ oraForms s b w, WritesA s f (s.a ||| f.operand) (withNZ (s.a ||| f.operand) s.p)) ∧
    (∀ f ∈ eorForms s b w, WritesA s f (s.a ^^^ f.operand) (withNZ (s.a ^^^ f.operand) s.p))

/-- BIT (R153): A is not written. N from bit 7 of the operand is the spec's choice D13. Opcode bytes, cycle counts and
flag lists are the spec's choices D32, D5 and D37. -/
def Obligations.BitTestsMemoryAgainstA : Prop :=
  ∀ (s : State) (b : Byte) (w : Addr), ∀ f ∈ bitForms s b w,
    SetsFlagsOnly s f { s.p with
      z := decide (s.a &&& f.operand = 0), n := f.operand.getLsbD 7, v := f.operand.getLsbD 6 }

/-- ASL, LSR, ROL and ROR, on A and on memory (42_shift_rotate.md R160 to R163). Opcode bytes, cycle counts and flag lists
are the spec's choices D32, D5 and D37. -/
def Obligations.ShiftsAndRotates : Prop :=
  ShiftRule .aslAcc 0x0A aslForms (fun _ v => v <<< 1) (fun v => v.getLsbD 7) ∧
  ShiftRule .lsrAcc 0x4A lsrForms (fun _ v => v >>> 1) (fun v => v.getLsbD 0) ∧
  ShiftRule .rolAcc 0x2A rolForms (fun c v => (v <<< 1) ||| (if c then 0x01 else 0x00)) (fun v => v.getLsbD 7) ∧
  ShiftRule .rorAcc 0x6A rorForms (fun c v => (v >>> 1) ||| (if c then 0x80 else 0x00)) (fun v => v.getLsbD 0)

/-- Nine ROLs of A with C restore A and C (R162), and so every other bit of the state but N, Z, PC and the counter. Cycle
counts are the spec's choice D5. -/
def Obligations.NineRolsRestoreAAndC : Prop :=
  ∀ s : State, ∃ t, rolTimes 9 s = .next t ∧ t.a = s.a ∧ t.p.c = s.p.c ∧
    t = { s with p := { s.p with n := t.p.n, z := t.p.z }, pc := s.pc + 9, cycles := s.cycles + 18 }

/-- CMP, CPX and CPY (43_compare.md R170 to R173): CPY compares Y. Opcode bytes, cycle counts and flag lists are the
spec's choices D32, D5 and D37. -/
def Obligations.ComparesSetFlagsOnly : Prop :=
  ∀ (s : State) (b : Byte) (w : Addr),
    let flags (r m : Byte) : Status :=
      { s.p with c := decide (r.toNat ≥ m.toNat), z := decide (r = m), n := (r - m).getLsbD 7 }
    (∀ f ∈ cmpForms s b w, SetsFlagsOnly s f (flags s.a f.operand)) ∧
    (∀ f ∈ cpxForms s b w, SetsFlagsOnly s f (flags s.x f.operand)) ∧
    (∀ f ∈ cpyForms s b w, SetsFlagsOnly s f (flags s.y f.operand))

/-! # Increment, load, store, transfer -/

/-- INC and DEC on memory (44_inc_dec.md R180, R181). Opcode bytes, cycle counts and flag lists are the spec's choices
D32, D5 and D37. -/
def Obligations.IncAndDecWriteMemory : Prop :=
  ∀ (s : State) (b : Byte) (w : Addr), s.mem.wf = true →
    (∀ f ∈ incForms s b w, StoresByte s f (s.load f.addr + 1) (withNZ (s.load f.addr + 1) s.p)) ∧
    (∀ f ∈ decForms s b w, StoresByte s f (s.load f.addr - 1) (withNZ (s.load f.addr - 1) s.p))

/-- INX, INY, DEX and DEY (R182 to R185). Opcode bytes, cycle counts and flag lists are the spec's choices D32, D5 and
D37. -/
def Obligations.IndexIncrementsAndDecrements : Prop :=
  ImpliedRule .inx 0xE8 (fun s => { s with x := s.x + 1, p := withNZ (s.x + 1) s.p }) ∧
  ImpliedRule .iny 0xC8 (fun s => { s with y := s.y + 1, p := withNZ (s.y + 1) s.p }) ∧
  ImpliedRule .dex 0xCA (fun s => { s with x := s.x - 1, p := withNZ (s.x - 1) s.p }) ∧
  ImpliedRule .dey 0x88 (fun s => { s with y := s.y - 1, p := withNZ (s.y - 1) s.p })

/-- LDA, LDX and LDY (45_load_store.md R190, R191, R192). Opcode bytes, cycle counts and flag lists are the spec's choices
D32, D5 and D37. -/
def Obligations.LoadsWriteRegisterAndNZ : Prop :=
  ∀ (s : State) (b : Byte) (w : Addr),
    (∀ f ∈ ldaForms s b w, WritesA s f f.operand (withNZ f.operand s.p)) ∧
    (∀ f ∈ ldxForms s b w, encode f.instr = f.bytes ∧ exec f.instr s = .next { s with
      x := f.operand, p := withNZ f.operand s.p, pc := pcAfter s f.bytes, cycles := s.cycles + f.cost }) ∧
    (∀ f ∈ ldyForms s b w, encode f.instr = f.bytes ∧ exec f.instr s = .next { s with
      y := f.operand, p := withNZ f.operand s.p, pc := pcAfter s f.bytes, cycles := s.cycles + f.cost })

/-- STA, STX and STY (R193, R194, R195). Opcode bytes, cycle counts and flag lists are the spec's choices D32, D5 and D37. -/
def Obligations.StoresWriteOneByte : Prop :=
  ∀ (s : State) (b : Byte) (w : Addr), s.mem.wf = true →
    (∀ f ∈ staForms s b w, StoresByte s f s.a s.p) ∧
    (∀ f ∈ stxForms s b w, StoresByte s f s.x s.p) ∧
    (∀ f ∈ styForms s b w, StoresByte s f s.y s.p)

/-- TAX, TAY, TXA, TYA, TSX and TXS (46_transfer.md R200 to R205): TXS writes no flag. Opcode bytes, cycle counts and flag
lists are the spec's choices D32, D5 and D37. -/
def Obligations.TransfersCopyRegisters : Prop :=
  ImpliedRule .tax 0xAA (fun s => { s with x := s.a, p := withNZ s.a s.p }) ∧
  ImpliedRule .tay 0xA8 (fun s => { s with y := s.a, p := withNZ s.a s.p }) ∧
  ImpliedRule .txa 0x8A (fun s => { s with a := s.x, p := withNZ s.x s.p }) ∧
  ImpliedRule .tya 0x98 (fun s => { s with a := s.y, p := withNZ s.y s.p }) ∧
  ImpliedRule .tsx 0xBA (fun s => { s with x := s.sp, p := withNZ s.sp s.p }) ∧
  ImpliedRule .txs 0x9A (fun s => { s with sp := s.x })

/-! # Stack -/

/-- PHA and PHP (47_stack.md R210, R212, R214): write at 0x0100 + S, then decrement S modulo 256. That PHP pushes bits 4
and 5 as 1 is the spec's choice D10. Opcode bytes, cycle counts and flag lists are the spec's choices D32, D5 and D37. -/
def Obligations.PushesWriteAtStackPointer : Prop :=
  PushRule .pha 0x48 (fun s => s.a) ∧ PushRule .php 0x08 (fun s => s.p.toByte ||| 0x30)

/-- PLA and PLP (R211, R213, R215): increment S modulo 256, then read at 0x0100 + S. That PLP leaves B is the spec's
choice D9. Opcode bytes, cycle counts and flag lists are the spec's choices D32, D5 and D37. -/
def Obligations.PullsReadAboveStackPointer : Prop :=
  ∀ s : State,
    let v := s.load (stackByte (s.sp + 1))
    (encode .pla = [0x68] ∧ exec .pla s = .next { s with
      a := v, p := withNZ v s.p, sp := s.sp + 1, pc := s.pc + 1, cycles := s.cycles + 4 }) ∧
    (encode .plp = [0x28] ∧ exec .plp s = .next { s with
      p := { s.p with
        n := v.getLsbD 7, v := v.getLsbD 6, d := v.getLsbD 3, i := v.getLsbD 2, z := v.getLsbD 1, c := v.getLsbD 0 }
      sp := s.sp + 1, pc := s.pc + 1, cycles := s.cycles + 4 })

/-! # Control transfer -/

/-- JMP (48_control_transfer.md R220, 30_encoding.md R101): the indirect form reads its target's high byte in the page of
the low byte if JMP_IND_PAGE_WRAP is true, at the next address if it is false. Opcode bytes, cycle counts and flag lists
are the spec's choices D32, D5 and D37. -/
def Obligations.JmpSetsPc : Prop :=
  ∀ (s : State) (w : Addr),
    (encode (.jmpAbs w) = [0x4C, loByte w, hiByte w] ∧
      exec (.jmpAbs w) s = .next { s with pc := w, cycles := s.cycles + 3 }) ∧
    (encode (.jmpInd w) = [0x6C, loByte w, hiByte w] ∧
      exec (.jmpInd w) s = .next { s with
        pc := wordOf
          (s.load (if Config.jmpIndPageWrap = true then wordOf (hiByte w) (loByte w + 1) else w + 1)) (s.load w)
        cycles := s.cycles + 5 })

/-- JSR (R221): pushes the address of its last byte, high byte first. Opcode bytes, cycle counts and flag lists are the
spec's choices D32, D5 and D37. -/
def Obligations.JsrPushesReturnAddress : Prop :=
  ∀ (s : State) (w : Addr), s.mem.wf = true →
    encode (.jsr w) = [0x20, loByte w, hiByte w] ∧
    ∃ t, exec (.jsr w) s = .next t ∧
      t.load (stackByte s.sp) = hiByte (s.pc + 2) ∧ t.load (stackByte (s.sp - 1)) = loByte (s.pc + 2) ∧
      (∀ addr, addr ≠ stackByte s.sp → addr ≠ stackByte (s.sp - 1) → t.load addr = s.load addr) ∧
      t = { s with sp := s.sp - 2, mem := t.mem, pc := w, cycles := s.cycles + 6 }

/-- RTS (R222): pulls PC low byte first and adds 1. Opcode bytes, cycle counts and flag lists are the spec's choices D32,
D5 and D37. -/
def Obligations.RtsPullsPcPlusOne : Prop :=
  ∀ s : State, encode .rts = [0x60] ∧ exec .rts s = .next { s with
    sp := s.sp + 2, pc := wordOf (s.load (stackByte (s.sp + 2))) (s.load (stackByte (s.sp + 1))) + 1
    cycles := s.cycles + 6 }

/-- The stack discipline (R213, R221): PHA then PLA restores A and S, whatever was done to A between; PHP then PLP
restores P and S, whatever was done to the flags but B; JSR then RTS resumes after the JSR with S as it was. Cycle counts
are the spec's choice D5. -/
def Obligations.PullsUndoPushes : Prop :=
  ∀ (s : State) (a : Byte) (q : Status) (w : Addr), s.mem.wf = true →
    (∃ t u, exec .pha s = .next t ∧ exec .pla { t with a := a } = .next u ∧ u.a = s.a ∧ u.sp = s.sp) ∧
    (∃ t u, exec .php s = .next t ∧ exec .plp { t with p := { q with b := s.p.b } } = .next u ∧ u.p = s.p ∧ u.sp = s.sp) ∧
    (∃ t u, exec (.jsr w) s = .next t ∧ exec .rts t = .next u ∧
      u = { s with mem := u.mem, pc := s.pc + 3, cycles := s.cycles + 12 })

/-- RTI (R223): pulls P, bits 4 and 5 of the byte discarded (the spec's choice D9), then PC low byte first, with no
increment. Opcode bytes, cycle counts and flag lists are the spec's choices D32, D5 and D37. -/
def Obligations.RtiPullsStatusThenPc : Prop :=
  ∀ s : State,
    let v := s.load (stackByte (s.sp + 1))
    encode .rti = [0x40] ∧ exec .rti s = .next { s with
      p := { s.p with
        n := v.getLsbD 7, v := v.getLsbD 6, d := v.getLsbD 3, i := v.getLsbD 2, z := v.getLsbD 1, c := v.getLsbD 0 }
      sp := s.sp + 3, pc := wordOf (s.load (stackByte (s.sp + 3))) (s.load (stackByte (s.sp + 2)))
      cycles := s.cycles + 6 }

/-- BRK (R224): pushes its address plus 2 and the status with bit 4 set, sets I (the spec's choice D11), and loads PC from
the vector at 0xFFFE, whatever I holds. Opcode bytes, cycle counts and flag lists are the spec's choices D32, D5 and D37. -/
def Obligations.BrkEntersIrqVector : Prop :=
  ∀ s : State, s.mem.wf = true →
    encode .brk = [0x00] ∧
    ∃ t, exec .brk s = .next t ∧ PushedFrame s t (s.pc + 2) true ∧
      t = { s with
        sp := s.sp - 3, p := { s.p with i := true }, pc := wordOf (s.load 0xFFFF) (s.load 0xFFFE), mem := t.mem
        cycles := s.cycles + 7 }

/-! # Branches, flags, NOP -/

/-- The eight branches (49_branch_flags_nop.md R230 to R238). That the page test is against the next-instruction address
is the spec's choice D7. Opcode bytes, cycle counts and flag lists are the spec's choices D32, D5 and D37. -/
def Obligations.BranchesTestOneFlag : Prop :=
  BranchRule .bcc 0x90 (fun p => !p.c) ∧ BranchRule .bcs 0xB0 (fun p => p.c) ∧
  BranchRule .beq 0xF0 (fun p => p.z) ∧ BranchRule .bne 0xD0 (fun p => !p.z) ∧
  BranchRule .bmi 0x30 (fun p => p.n) ∧ BranchRule .bpl 0x10 (fun p => !p.n) ∧
  BranchRule .bvc 0x50 (fun p => !p.v) ∧ BranchRule .bvs 0x70 (fun p => p.v)

/-- The flag instructions write exactly one flag, and NOP nothing (R240, R241, R244 to R247, and R242, R243). Opcode
bytes, cycle counts and flag lists are the spec's choices D32, D5 and D37. -/
def Obligations.FlagInstructionsWriteOneFlag : Prop :=
  ImpliedRule .clc 0x18 (fun s => { s with p := { s.p with c := false } }) ∧
  ImpliedRule .sec 0x38 (fun s => { s with p := { s.p with c := true } }) ∧
  ImpliedRule .cli 0x58 (fun s => { s with p := { s.p with i := false } }) ∧
  ImpliedRule .sei 0x78 (fun s => { s with p := { s.p with i := true } }) ∧
  ImpliedRule .cld 0xD8 (fun s => { s with p := { s.p with d := false } }) ∧
  ImpliedRule .sed 0xF8 (fun s => { s with p := { s.p with d := true } }) ∧
  ImpliedRule .clv 0xB8 (fun s => { s with p := { s.p with v := false } }) ∧
  ImpliedRule .nop 0xEA (fun s => s)

/-! # Addresses -/

/-- A page is crossed exactly when the low-byte-only addition overflows (30_encoding.md R106). -/
def Obligations.PageIsCrossedWhenLowByteOverflows : Prop :=
  ∀ (base : Addr) (index : Byte),
    (crossed base index = true ↔ 0xFF < (loByte base).toNat + index.toNat) ∧
    (crossed base index = true ↔ (loByte (base + zext16 index)).toNat < (loByte base).toNat)

/-- Resolving the modes that follow no pointer, when the bytes at PC decode to `i`: the operand bytes are those after the
opcode, low byte first, and PC passes them; the effective address and `crossed` are those of R97 (ZP, ZPX), R98 (ZPY), R99
(ABS, ABX), R100 (ABY) and R104 (REL). -/
def Obligations.ResolverComputesPlainAddresses : Prop :=
  ∀ (s : State) (i : Instr) (rest : List Byte), decode s.fetchBytes = .instr i rest →
    let b0 := s.load (s.pc + 1)
    let b1 := s.load (s.pc + 2)
    let base : Nat := b0.toNat + 256 * b1.toNat
    (i.mode = .ZP → s.fetchBytes.length = 2 ∧ ∃ ea, resolved i s = (.mem ea, false) ∧ ea.toNat = b0.toNat) ∧
    (i.mode = .ZPX → s.fetchBytes.length = 2 ∧
      ∃ ea, resolved i s = (.mem ea, false) ∧ ea.toNat = (b0.toNat + s.x.toNat) % 256) ∧
    (i.mode = .ZPY → s.fetchBytes.length = 2 ∧ i.op ∈ [Op.LDX, .STX] ∧
      ∃ ea, resolved i s = (.mem ea, false) ∧ ea.toNat = (b0.toNat + s.y.toNat) % 256) ∧
    (i.mode = .ABS → s.fetchBytes.length = 3 ∧ ∃ ea, resolved i s = (.mem ea, false) ∧ ea.toNat = base) ∧
    (i.mode = .ABX → s.fetchBytes.length = 3 ∧ ∃ ea page, resolved i s = (.mem ea, page) ∧
      ea.toNat = (base + s.x.toNat) % 65536 ∧ (page = true ↔ ea.toNat / 256 ≠ base / 256)) ∧
    (i.mode = .ABY → s.fetchBytes.length = 3 ∧ ∃ ea page, resolved i s = (.mem ea, page) ∧
      ea.toNat = (base + s.y.toNat) % 65536 ∧ (page = true ↔ ea.toNat / 256 ≠ base / 256)) ∧
    (i.mode = .REL → s.fetchBytes.length = 2 ∧ i.op ∈ branchOps ∧
      ∃ ea, resolved i s = (.mem ea, false) ∧ (ea.toNat : Int) = ((s.pc.toNat : Int) + 2 + b0.toInt) % 65536)

/-- Resolving the other modes (R96, R101, R102, R103): no operand for IMP and ACC, the operand byte's own address for IMM, and
pointers. A zero-page pointer's second byte is read in zero page (the spec's choice D15); where an indirect pointer's is read
is JMP_IND_PAGE_WRAP (D14, log entry 1). -/
def Obligations.ResolverFollowsPointers : Prop :=
  ∀ (s : State) (i : Instr) (rest : List Byte), decode s.fetchBytes = .instr i rest →
    let b0 := s.load (s.pc + 1)
    let b1 := s.load (s.pc + 2)
    let pointer (zp : Byte) : Addr := wordOf (s.load (zext16 (zp + 1))) (s.load (zext16 zp))
    (i.mode = .IMP → s.fetchBytes.length = 1 ∧ resolved i s = (.none, false)) ∧
    (i.mode = .ACC → s.fetchBytes.length = 1 ∧ resolved i s = (.acc, false)) ∧
    (i.mode = .IMM → s.fetchBytes.length = 2 ∧ resolved i s = (.mem (s.pc + 1), false)) ∧
    (i.mode = .IND → s.fetchBytes.length = 3 ∧ i.op = .JMP ∧
      resolved i s =
        (.mem (wordOf (s.load (if Config.jmpIndPageWrap = true then wordOf b1 (b0 + 1) else wordOf b1 b0 + 1))
          (s.load (wordOf b1 b0))), false)) ∧
    (i.mode = .IZX → s.fetchBytes.length = 2 ∧ resolved i s = (.mem (pointer (b0 + s.x)), false)) ∧
    (i.mode = .IZY → s.fetchBytes.length = 2 ∧
      resolved i s = (.mem (pointer b0 + zext16 s.y),
        decide (hiByte (pointer b0 + zext16 s.y) ≠ hiByte (pointer b0))))

/-- A store to the address of the next instruction is seen by its fetch (20_memory.md R65). -/
def Obligations.StoredByteIsFetchedNext : Prop :=
  ∀ s : State, s.mem.wf = true →
    ∃ t, exec (.staAbs (s.pc + 3)) s = .next t ∧ t.fetchBytes.head? = some s.a

/-- The byte of P is laid out as 10_state.md R27 lists, and its bit 5 reads as 1 in every state (R33, the spec's choice D8). -/
def Obligations.StatusByteLayout : Prop :=
  ∀ p : Status,
    p.toByte.toNat = 128 * p.n.toNat + 64 * p.v.toNat + 32 + 16 * p.b.toNat + 8 * p.d.toNat + 4 * p.i.toNat
      + 2 * p.z.toNat + p.c.toNat
end

