-- ==== Sys2Proof/Laws/Decode.lean ====
section
/-! SUPPORT. What the decoder and its table answer: each opcode's row, and decoding by the row. -/

namespace Sys2Proof

/-- Decoding is by the opcode's row. -/
theorem decode_of_rowOf {opcode : Byte} {r : Row} (h : rowOf opcode = some r) (rest : List Byte) :
    decode (opcode :: rest) = r.shape.build rest := by simp [decode, h]

theorem decode_of_rowOf_none {opcode : Byte} (h : rowOf opcode = none) (rest : List Byte) :
    decode (opcode :: rest) = .error (.invalidOpcode opcode) := by simp [decode, h]

/-- A row the table gives an opcode carries that opcode. -/
theorem rowOf_opcode {opcode : Byte} {r : Row} (h : rowOf opcode = some r) : r.opcode = opcode := by
  have := List.find?_some h
  simpa using this

/-- A row the table gives an opcode is a row of the table. -/
theorem rowOf_mem {opcode : Byte} {r : Row} (h : rowOf opcode = some r) : r ∈ decodeRows.flatten := by
  have hm := List.mem_of_find?_eq_some h
  rw [List.getD_eq_getElem?_getD] at hm
  cases hl : decodeRows[opcode.toNat / 16]? with
  | none => simp [hl] at hm
  | some l =>
    simp only [hl, Option.getD_some] at hm
    exact List.mem_flatten.2 ⟨l, List.mem_of_getElem? hl, hm⟩

/-- The operand bytes a format takes. -/
def Shape.operandBytes : Shape → Nat
  | .alone _ => 0
  | .byte _ => 1
  | .word _ => 2

/-- Every row's format takes as many operand bytes as its mode has. -/
theorem row_operandBytes :
    ∀ r ∈ decodeRows.flatten, r.shape.operandBytes = r.desc.mode.operandBytes := by decide +kernel

/-- A format given as many bytes as it takes builds an instruction and leaves none over. -/
theorem Shape.build_exact : ∀ (sh : Shape) (bytes : List Byte), bytes.length = sh.operandBytes →
    ∃ i, sh.build bytes = .instr i []
  | .alone i, [], _ => ⟨i, rfl⟩
  | .byte make, [b], _ => ⟨make b, rfl⟩
  | .word make, [lo, hi], _ => ⟨make (wordOf hi lo), rfl⟩

/-! ## The rows, one by one -/

@[simp] theorem rowOf_00 : rowOf 0x00#8 = some (row 0x00 .BRK .IMP 7 .none (.alone .brk)) := rfl
@[simp] theorem rowOf_01 : rowOf 0x01#8 = some (row 0x01 .ORA .IZX 6 .none (.byte .oraIzx)) := rfl
@[simp] theorem rowOf_05 : rowOf 0x05#8 = some (row 0x05 .ORA .ZP 3 .none (.byte .oraZp)) := rfl
@[simp] theorem rowOf_06 : rowOf 0x06#8 = some (row 0x06 .ASL .ZP 5 .none (.byte .aslZp)) := rfl
@[simp] theorem rowOf_08 : rowOf 0x08#8 = some (row 0x08 .PHP .IMP 3 .none (.alone .php)) := rfl
@[simp] theorem rowOf_09 : rowOf 0x09#8 = some (row 0x09 .ORA .IMM 2 .none (.byte .oraImm)) := rfl
@[simp] theorem rowOf_0A : rowOf 0x0A#8 = some (row 0x0A .ASL .ACC 2 .none (.alone .aslAcc)) := rfl
@[simp] theorem rowOf_0D : rowOf 0x0D#8 = some (row 0x0D .ORA .ABS 4 .none (.word .oraAbs)) := rfl
@[simp] theorem rowOf_0E : rowOf 0x0E#8 = some (row 0x0E .ASL .ABS 6 .none (.word .aslAbs)) := rfl
@[simp] theorem rowOf_10 : rowOf 0x10#8 = some (row 0x10 .BPL .REL 2 .branch (.byte .bpl)) := rfl
@[simp] theorem rowOf_11 : rowOf 0x11#8 = some (row 0x11 .ORA .IZY 5 .page (.byte .oraIzy)) := rfl
@[simp] theorem rowOf_15 : rowOf 0x15#8 = some (row 0x15 .ORA .ZPX 4 .none (.byte .oraZpx)) := rfl
@[simp] theorem rowOf_16 : rowOf 0x16#8 = some (row 0x16 .ASL .ZPX 6 .none (.byte .aslZpx)) := rfl
@[simp] theorem rowOf_18 : rowOf 0x18#8 = some (row 0x18 .CLC .IMP 2 .none (.alone .clc)) := rfl
@[simp] theorem rowOf_19 : rowOf 0x19#8 = some (row 0x19 .ORA .ABY 4 .page (.word .oraAby)) := rfl
@[simp] theorem rowOf_1D : rowOf 0x1D#8 = some (row 0x1D .ORA .ABX 4 .page (.word .oraAbx)) := rfl
@[simp] theorem rowOf_1E : rowOf 0x1E#8 = some (row 0x1E .ASL .ABX 7 .none (.word .aslAbx)) := rfl
@[simp] theorem rowOf_20 : rowOf 0x20#8 = some (row 0x20 .JSR .ABS 6 .none (.word .jsr)) := rfl
@[simp] theorem rowOf_21 : rowOf 0x21#8 = some (row 0x21 .AND .IZX 6 .none (.byte .andIzx)) := rfl
@[simp] theorem rowOf_24 : rowOf 0x24#8 = some (row 0x24 .BIT .ZP 3 .none (.byte .bitZp)) := rfl
@[simp] theorem rowOf_25 : rowOf 0x25#8 = some (row 0x25 .AND .ZP 3 .none (.byte .andZp)) := rfl
@[simp] theorem rowOf_26 : rowOf 0x26#8 = some (row 0x26 .ROL .ZP 5 .none (.byte .rolZp)) := rfl
@[simp] theorem rowOf_28 : rowOf 0x28#8 = some (row 0x28 .PLP .IMP 4 .none (.alone .plp)) := rfl
@[simp] theorem rowOf_29 : rowOf 0x29#8 = some (row 0x29 .AND .IMM 2 .none (.byte .andImm)) := rfl
@[simp] theorem rowOf_2A : rowOf 0x2A#8 = some (row 0x2A .ROL .ACC 2 .none (.alone .rolAcc)) := rfl
@[simp] theorem rowOf_2C : rowOf 0x2C#8 = some (row 0x2C .BIT .ABS 4 .none (.word .bitAbs)) := rfl
@[simp] theorem rowOf_2D : rowOf 0x2D#8 = some (row 0x2D .AND .ABS 4 .none (.word .andAbs)) := rfl
@[simp] theorem rowOf_2E : rowOf 0x2E#8 = some (row 0x2E .ROL .ABS 6 .none (.word .rolAbs)) := rfl
@[simp] theorem rowOf_30 : rowOf 0x30#8 = some (row 0x30 .BMI .REL 2 .branch (.byte .bmi)) := rfl
@[simp] theorem rowOf_31 : rowOf 0x31#8 = some (row 0x31 .AND .IZY 5 .page (.byte .andIzy)) := rfl
@[simp] theorem rowOf_35 : rowOf 0x35#8 = some (row 0x35 .AND .ZPX 4 .none (.byte .andZpx)) := rfl
@[simp] theorem rowOf_36 : rowOf 0x36#8 = some (row 0x36 .ROL .ZPX 6 .none (.byte .rolZpx)) := rfl
@[simp] theorem rowOf_38 : rowOf 0x38#8 = some (row 0x38 .SEC .IMP 2 .none (.alone .sec)) := rfl
@[simp] theorem rowOf_39 : rowOf 0x39#8 = some (row 0x39 .AND .ABY 4 .page (.word .andAby)) := rfl
@[simp] theorem rowOf_3D : rowOf 0x3D#8 = some (row 0x3D .AND .ABX 4 .page (.word .andAbx)) := rfl
@[simp] theorem rowOf_3E : rowOf 0x3E#8 = some (row 0x3E .ROL .ABX 7 .none (.word .rolAbx)) := rfl
@[simp] theorem rowOf_40 : rowOf 0x40#8 = some (row 0x40 .RTI .IMP 6 .none (.alone .rti)) := rfl
@[simp] theorem rowOf_41 : rowOf 0x41#8 = some (row 0x41 .EOR .IZX 6 .none (.byte .eorIzx)) := rfl
@[simp] theorem rowOf_45 : rowOf 0x45#8 = some (row 0x45 .EOR .ZP 3 .none (.byte .eorZp)) := rfl
@[simp] theorem rowOf_46 : rowOf 0x46#8 = some (row 0x46 .LSR .ZP 5 .none (.byte .lsrZp)) := rfl
@[simp] theorem rowOf_48 : rowOf 0x48#8 = some (row 0x48 .PHA .IMP 3 .none (.alone .pha)) := rfl
@[simp] theorem rowOf_49 : rowOf 0x49#8 = some (row 0x49 .EOR .IMM 2 .none (.byte .eorImm)) := rfl
@[simp] theorem rowOf_4A : rowOf 0x4A#8 = some (row 0x4A .LSR .ACC 2 .none (.alone .lsrAcc)) := rfl
@[simp] theorem rowOf_4C : rowOf 0x4C#8 = some (row 0x4C .JMP .ABS 3 .none (.word .jmpAbs)) := rfl
@[simp] theorem rowOf_4D : rowOf 0x4D#8 = some (row 0x4D .EOR .ABS 4 .none (.word .eorAbs)) := rfl
@[simp] theorem rowOf_4E : rowOf 0x4E#8 = some (row 0x4E .LSR .ABS 6 .none (.word .lsrAbs)) := rfl
@[simp] theorem rowOf_50 : rowOf 0x50#8 = some (row 0x50 .BVC .REL 2 .branch (.byte .bvc)) := rfl
@[simp] theorem rowOf_51 : rowOf 0x51#8 = some (row 0x51 .EOR .IZY 5 .page (.byte .eorIzy)) := rfl
@[simp] theorem rowOf_55 : rowOf 0x55#8 = some (row 0x55 .EOR .ZPX 4 .none (.byte .eorZpx)) := rfl
@[simp] theorem rowOf_56 : rowOf 0x56#8 = some (row 0x56 .LSR .ZPX 6 .none (.byte .lsrZpx)) := rfl
@[simp] theorem rowOf_58 : rowOf 0x58#8 = some (row 0x58 .CLI .IMP 2 .none (.alone .cli)) := rfl
@[simp] theorem rowOf_59 : rowOf 0x59#8 = some (row 0x59 .EOR .ABY 4 .page (.word .eorAby)) := rfl
@[simp] theorem rowOf_5D : rowOf 0x5D#8 = some (row 0x5D .EOR .ABX 4 .page (.word .eorAbx)) := rfl
@[simp] theorem rowOf_5E : rowOf 0x5E#8 = some (row 0x5E .LSR .ABX 7 .none (.word .lsrAbx)) := rfl
@[simp] theorem rowOf_60 : rowOf 0x60#8 = some (row 0x60 .RTS .IMP 6 .none (.alone .rts)) := rfl
@[simp] theorem rowOf_61 : rowOf 0x61#8 = some (row 0x61 .ADC .IZX 6 .none (.byte .adcIzx)) := rfl
@[simp] theorem rowOf_65 : rowOf 0x65#8 = some (row 0x65 .ADC .ZP 3 .none (.byte .adcZp)) := rfl
@[simp] theorem rowOf_66 : rowOf 0x66#8 = some (row 0x66 .ROR .ZP 5 .none (.byte .rorZp)) := rfl
@[simp] theorem rowOf_68 : rowOf 0x68#8 = some (row 0x68 .PLA .IMP 4 .none (.alone .pla)) := rfl
@[simp] theorem rowOf_69 : rowOf 0x69#8 = some (row 0x69 .ADC .IMM 2 .none (.byte .adcImm)) := rfl
@[simp] theorem rowOf_6A : rowOf 0x6A#8 = some (row 0x6A .ROR .ACC 2 .none (.alone .rorAcc)) := rfl
@[simp] theorem rowOf_6C : rowOf 0x6C#8 = some (row 0x6C .JMP .IND 5 .none (.word .jmpInd)) := rfl
@[simp] theorem rowOf_6D : rowOf 0x6D#8 = some (row 0x6D .ADC .ABS 4 .none (.word .adcAbs)) := rfl
@[simp] theorem rowOf_6E : rowOf 0x6E#8 = some (row 0x6E .ROR .ABS 6 .none (.word .rorAbs)) := rfl
@[simp] theorem rowOf_70 : rowOf 0x70#8 = some (row 0x70 .BVS .REL 2 .branch (.byte .bvs)) := rfl
@[simp] theorem rowOf_71 : rowOf 0x71#8 = some (row 0x71 .ADC .IZY 5 .page (.byte .adcIzy)) := rfl
@[simp] theorem rowOf_75 : rowOf 0x75#8 = some (row 0x75 .ADC .ZPX 4 .none (.byte .adcZpx)) := rfl
@[simp] theorem rowOf_76 : rowOf 0x76#8 = some (row 0x76 .ROR .ZPX 6 .none (.byte .rorZpx)) := rfl
@[simp] theorem rowOf_78 : rowOf 0x78#8 = some (row 0x78 .SEI .IMP 2 .none (.alone .sei)) := rfl
@[simp] theorem rowOf_79 : rowOf 0x79#8 = some (row 0x79 .ADC .ABY 4 .page (.word .adcAby)) := rfl
@[simp] theorem rowOf_7D : rowOf 0x7D#8 = some (row 0x7D .ADC .ABX 4 .page (.word .adcAbx)) := rfl
@[simp] theorem rowOf_7E : rowOf 0x7E#8 = some (row 0x7E .ROR .ABX 7 .none (.word .rorAbx)) := rfl
@[simp] theorem rowOf_81 : rowOf 0x81#8 = some (row 0x81 .STA .IZX 6 .none (.byte .staIzx)) := rfl
@[simp] theorem rowOf_84 : rowOf 0x84#8 = some (row 0x84 .STY .ZP 3 .none (.byte .styZp)) := rfl
@[simp] theorem rowOf_85 : rowOf 0x85#8 = some (row 0x85 .STA .ZP 3 .none (.byte .staZp)) := rfl
@[simp] theorem rowOf_86 : rowOf 0x86#8 = some (row 0x86 .STX .ZP 3 .none (.byte .stxZp)) := rfl
@[simp] theorem rowOf_88 : rowOf 0x88#8 = some (row 0x88 .DEY .IMP 2 .none (.alone .dey)) := rfl
@[simp] theorem rowOf_8A : rowOf 0x8A#8 = some (row 0x8A .TXA .IMP 2 .none (.alone .txa)) := rfl
@[simp] theorem rowOf_8C : rowOf 0x8C#8 = some (row 0x8C .STY .ABS 4 .none (.word .styAbs)) := rfl
@[simp] theorem rowOf_8D : rowOf 0x8D#8 = some (row 0x8D .STA .ABS 4 .none (.word .staAbs)) := rfl
@[simp] theorem rowOf_8E : rowOf 0x8E#8 = some (row 0x8E .STX .ABS 4 .none (.word .stxAbs)) := rfl
@[simp] theorem rowOf_90 : rowOf 0x90#8 = some (row 0x90 .BCC .REL 2 .branch (.byte .bcc)) := rfl
@[simp] theorem rowOf_91 : rowOf 0x91#8 = some (row 0x91 .STA .IZY 6 .none (.byte .staIzy)) := rfl
@[simp] theorem rowOf_94 : rowOf 0x94#8 = some (row 0x94 .STY .ZPX 4 .none (.byte .styZpx)) := rfl
@[simp] theorem rowOf_95 : rowOf 0x95#8 = some (row 0x95 .STA .ZPX 4 .none (.byte .staZpx)) := rfl
@[simp] theorem rowOf_96 : rowOf 0x96#8 = some (row 0x96 .STX .ZPY 4 .none (.byte .stxZpy)) := rfl
@[simp] theorem rowOf_98 : rowOf 0x98#8 = some (row 0x98 .TYA .IMP 2 .none (.alone .tya)) := rfl
@[simp] theorem rowOf_99 : rowOf 0x99#8 = some (row 0x99 .STA .ABY 5 .none (.word .staAby)) := rfl
@[simp] theorem rowOf_9A : rowOf 0x9A#8 = some (row 0x9A .TXS .IMP 2 .none (.alone .txs)) := rfl
@[simp] theorem rowOf_9D : rowOf 0x9D#8 = some (row 0x9D .STA .ABX 5 .none (.word .staAbx)) := rfl
@[simp] theorem rowOf_A0 : rowOf 0xA0#8 = some (row 0xA0 .LDY .IMM 2 .none (.byte .ldyImm)) := rfl
@[simp] theorem rowOf_A1 : rowOf 0xA1#8 = some (row 0xA1 .LDA .IZX 6 .none (.byte .ldaIzx)) := rfl
@[simp] theorem rowOf_A2 : rowOf 0xA2#8 = some (row 0xA2 .LDX .IMM 2 .none (.byte .ldxImm)) := rfl
@[simp] theorem rowOf_A4 : rowOf 0xA4#8 = some (row 0xA4 .LDY .ZP 3 .none (.byte .ldyZp)) := rfl
@[simp] theorem rowOf_A5 : rowOf 0xA5#8 = some (row 0xA5 .LDA .ZP 3 .none (.byte .ldaZp)) := rfl
@[simp] theorem rowOf_A6 : rowOf 0xA6#8 = some (row 0xA6 .LDX .ZP 3 .none (.byte .ldxZp)) := rfl
@[simp] theorem rowOf_A8 : rowOf 0xA8#8 = some (row 0xA8 .TAY .IMP 2 .none (.alone .tay)) := rfl
@[simp] theorem rowOf_A9 : rowOf 0xA9#8 = some (row 0xA9 .LDA .IMM 2 .none (.byte .ldaImm)) := rfl
@[simp] theorem rowOf_AA : rowOf 0xAA#8 = some (row 0xAA .TAX .IMP 2 .none (.alone .tax)) := rfl
@[simp] theorem rowOf_AC : rowOf 0xAC#8 = some (row 0xAC .LDY .ABS 4 .none (.word .ldyAbs)) := rfl
@[simp] theorem rowOf_AD : rowOf 0xAD#8 = some (row 0xAD .LDA .ABS 4 .none (.word .ldaAbs)) := rfl
@[simp] theorem rowOf_AE : rowOf 0xAE#8 = some (row 0xAE .LDX .ABS 4 .none (.word .ldxAbs)) := rfl
@[simp] theorem rowOf_B0 : rowOf 0xB0#8 = some (row 0xB0 .BCS .REL 2 .branch (.byte .bcs)) := rfl
@[simp] theorem rowOf_B1 : rowOf 0xB1#8 = some (row 0xB1 .LDA .IZY 5 .page (.byte .ldaIzy)) := rfl
@[simp] theorem rowOf_B4 : rowOf 0xB4#8 = some (row 0xB4 .LDY .ZPX 4 .none (.byte .ldyZpx)) := rfl
@[simp] theorem rowOf_B5 : rowOf 0xB5#8 = some (row 0xB5 .LDA .ZPX 4 .none (.byte .ldaZpx)) := rfl
@[simp] theorem rowOf_B6 : rowOf 0xB6#8 = some (row 0xB6 .LDX .ZPY 4 .none (.byte .ldxZpy)) := rfl
@[simp] theorem rowOf_B8 : rowOf 0xB8#8 = some (row 0xB8 .CLV .IMP 2 .none (.alone .clv)) := rfl
@[simp] theorem rowOf_B9 : rowOf 0xB9#8 = some (row 0xB9 .LDA .ABY 4 .page (.word .ldaAby)) := rfl
@[simp] theorem rowOf_BA : rowOf 0xBA#8 = some (row 0xBA .TSX .IMP 2 .none (.alone .tsx)) := rfl
@[simp] theorem rowOf_BC : rowOf 0xBC#8 = some (row 0xBC .LDY .ABX 4 .page (.word .ldyAbx)) := rfl
@[simp] theorem rowOf_BD : rowOf 0xBD#8 = some (row 0xBD .LDA .ABX 4 .page (.word .ldaAbx)) := rfl
@[simp] theorem rowOf_BE : rowOf 0xBE#8 = some (row 0xBE .LDX .ABY 4 .page (.word .ldxAby)) := rfl
@[simp] theorem rowOf_C0 : rowOf 0xC0#8 = some (row 0xC0 .CPY .IMM 2 .none (.byte .cpyImm)) := rfl
@[simp] theorem rowOf_C1 : rowOf 0xC1#8 = some (row 0xC1 .CMP .IZX 6 .none (.byte .cmpIzx)) := rfl
@[simp] theorem rowOf_C4 : rowOf 0xC4#8 = some (row 0xC4 .CPY .ZP 3 .none (.byte .cpyZp)) := rfl
@[simp] theorem rowOf_C5 : rowOf 0xC5#8 = some (row 0xC5 .CMP .ZP 3 .none (.byte .cmpZp)) := rfl
@[simp] theorem rowOf_C6 : rowOf 0xC6#8 = some (row 0xC6 .DEC .ZP 5 .none (.byte .decZp)) := rfl
@[simp] theorem rowOf_C8 : rowOf 0xC8#8 = some (row 0xC8 .INY .IMP 2 .none (.alone .iny)) := rfl
@[simp] theorem rowOf_C9 : rowOf 0xC9#8 = some (row 0xC9 .CMP .IMM 2 .none (.byte .cmpImm)) := rfl
@[simp] theorem rowOf_CA : rowOf 0xCA#8 = some (row 0xCA .DEX .IMP 2 .none (.alone .dex)) := rfl
@[simp] theorem rowOf_CC : rowOf 0xCC#8 = some (row 0xCC .CPY .ABS 4 .none (.word .cpyAbs)) := rfl
@[simp] theorem rowOf_CD : rowOf 0xCD#8 = some (row 0xCD .CMP .ABS 4 .none (.word .cmpAbs)) := rfl
@[simp] theorem rowOf_CE : rowOf 0xCE#8 = some (row 0xCE .DEC .ABS 6 .none (.word .decAbs)) := rfl
@[simp] theorem rowOf_D0 : rowOf 0xD0#8 = some (row 0xD0 .BNE .REL 2 .branch (.byte .bne)) := rfl
@[simp] theorem rowOf_D1 : rowOf 0xD1#8 = some (row 0xD1 .CMP .IZY 5 .page (.byte .cmpIzy)) := rfl
@[simp] theorem rowOf_D5 : rowOf 0xD5#8 = some (row 0xD5 .CMP .ZPX 4 .none (.byte .cmpZpx)) := rfl
@[simp] theorem rowOf_D6 : rowOf 0xD6#8 = some (row 0xD6 .DEC .ZPX 6 .none (.byte .decZpx)) := rfl
@[simp] theorem rowOf_D8 : rowOf 0xD8#8 = some (row 0xD8 .CLD .IMP 2 .none (.alone .cld)) := rfl
@[simp] theorem rowOf_D9 : rowOf 0xD9#8 = some (row 0xD9 .CMP .ABY 4 .page (.word .cmpAby)) := rfl
@[simp] theorem rowOf_DD : rowOf 0xDD#8 = some (row 0xDD .CMP .ABX 4 .page (.word .cmpAbx)) := rfl
@[simp] theorem rowOf_DE : rowOf 0xDE#8 = some (row 0xDE .DEC .ABX 7 .none (.word .decAbx)) := rfl
@[simp] theorem rowOf_E0 : rowOf 0xE0#8 = some (row 0xE0 .CPX .IMM 2 .none (.byte .cpxImm)) := rfl
@[simp] theorem rowOf_E1 : rowOf 0xE1#8 = some (row 0xE1 .SBC .IZX 6 .none (.byte .sbcIzx)) := rfl
@[simp] theorem rowOf_E4 : rowOf 0xE4#8 = some (row 0xE4 .CPX .ZP 3 .none (.byte .cpxZp)) := rfl
@[simp] theorem rowOf_E5 : rowOf 0xE5#8 = some (row 0xE5 .SBC .ZP 3 .none (.byte .sbcZp)) := rfl
@[simp] theorem rowOf_E6 : rowOf 0xE6#8 = some (row 0xE6 .INC .ZP 5 .none (.byte .incZp)) := rfl
@[simp] theorem rowOf_E8 : rowOf 0xE8#8 = some (row 0xE8 .INX .IMP 2 .none (.alone .inx)) := rfl
@[simp] theorem rowOf_E9 : rowOf 0xE9#8 = some (row 0xE9 .SBC .IMM 2 .none (.byte .sbcImm)) := rfl
@[simp] theorem rowOf_EA : rowOf 0xEA#8 = some (row 0xEA .NOP .IMP 2 .none (.alone .nop)) := rfl
@[simp] theorem rowOf_EC : rowOf 0xEC#8 = some (row 0xEC .CPX .ABS 4 .none (.word .cpxAbs)) := rfl
@[simp] theorem rowOf_ED : rowOf 0xED#8 = some (row 0xED .SBC .ABS 4 .none (.word .sbcAbs)) := rfl
@[simp] theorem rowOf_EE : rowOf 0xEE#8 = some (row 0xEE .INC .ABS 6 .none (.word .incAbs)) := rfl
@[simp] theorem rowOf_F0 : rowOf 0xF0#8 = some (row 0xF0 .BEQ .REL 2 .branch (.byte .beq)) := rfl
@[simp] theorem rowOf_F1 : rowOf 0xF1#8 = some (row 0xF1 .SBC .IZY 5 .page (.byte .sbcIzy)) := rfl
@[simp] theorem rowOf_F5 : rowOf 0xF5#8 = some (row 0xF5 .SBC .ZPX 4 .none (.byte .sbcZpx)) := rfl
@[simp] theorem rowOf_F6 : rowOf 0xF6#8 = some (row 0xF6 .INC .ZPX 6 .none (.byte .incZpx)) := rfl
@[simp] theorem rowOf_F8 : rowOf 0xF8#8 = some (row 0xF8 .SED .IMP 2 .none (.alone .sed)) := rfl
@[simp] theorem rowOf_F9 : rowOf 0xF9#8 = some (row 0xF9 .SBC .ABY 4 .page (.word .sbcAby)) := rfl
@[simp] theorem rowOf_FD : rowOf 0xFD#8 = some (row 0xFD .SBC .ABX 4 .page (.word .sbcAbx)) := rfl
@[simp] theorem rowOf_FE : rowOf 0xFE#8 = some (row 0xFE .INC .ABX 7 .none (.word .incAbx)) := rfl

end Sys2Proof
end

