-- ==== Sys2Proof/Laws/State.lean ====
section
/-! SUPPORT. What each update of a State field leaves in every field: one lemma per field per update. -/

namespace Sys2Proof.Machine

/-- Two states that agree in every field are equal. -/
theorem State.ext_fields {s t : State} (ha : s.a = t.a) (hx : s.x = t.x) (hy : s.y = t.y) (hsp : s.sp = t.sp)
    (hpc : s.pc = t.pc) (hp : s.p = t.p) (hcycles : s.cycles = t.cycles) (hirq : s.irqPending = t.irqPending)
    (hnmi : s.nmiPending = t.nmiPending) (hfault : s.fault = t.fault) (hmem : s.mem = t.mem) : s = t := by
  cases s; cases t; simp_all

variable (s : State)

/-! ### setA -/

@[simp] theorem State.setA_a (v : Byte) : (s.setA v).a = v := rfl
@[simp] theorem State.setA_x (v : Byte) : (s.setA v).x = s.x := rfl
@[simp] theorem State.setA_y (v : Byte) : (s.setA v).y = s.y := rfl
@[simp] theorem State.setA_sp (v : Byte) : (s.setA v).sp = s.sp := rfl
@[simp] theorem State.setA_pc (v : Byte) : (s.setA v).pc = s.pc := rfl
@[simp] theorem State.setA_p (v : Byte) : (s.setA v).p = s.p := rfl
@[simp] theorem State.setA_cycles (v : Byte) : (s.setA v).cycles = s.cycles := rfl
@[simp] theorem State.setA_irqPending (v : Byte) : (s.setA v).irqPending = s.irqPending := rfl
@[simp] theorem State.setA_nmiPending (v : Byte) : (s.setA v).nmiPending = s.nmiPending := rfl
@[simp] theorem State.setA_fault (v : Byte) : (s.setA v).fault = s.fault := rfl
@[simp] theorem State.setA_mem (v : Byte) : (s.setA v).mem = s.mem := rfl

/-! ### setX -/

@[simp] theorem State.setX_a (v : Byte) : (s.setX v).a = s.a := rfl
@[simp] theorem State.setX_x (v : Byte) : (s.setX v).x = v := rfl
@[simp] theorem State.setX_y (v : Byte) : (s.setX v).y = s.y := rfl
@[simp] theorem State.setX_sp (v : Byte) : (s.setX v).sp = s.sp := rfl
@[simp] theorem State.setX_pc (v : Byte) : (s.setX v).pc = s.pc := rfl
@[simp] theorem State.setX_p (v : Byte) : (s.setX v).p = s.p := rfl
@[simp] theorem State.setX_cycles (v : Byte) : (s.setX v).cycles = s.cycles := rfl
@[simp] theorem State.setX_irqPending (v : Byte) : (s.setX v).irqPending = s.irqPending := rfl
@[simp] theorem State.setX_nmiPending (v : Byte) : (s.setX v).nmiPending = s.nmiPending := rfl
@[simp] theorem State.setX_fault (v : Byte) : (s.setX v).fault = s.fault := rfl
@[simp] theorem State.setX_mem (v : Byte) : (s.setX v).mem = s.mem := rfl

/-! ### setY -/

@[simp] theorem State.setY_a (v : Byte) : (s.setY v).a = s.a := rfl
@[simp] theorem State.setY_x (v : Byte) : (s.setY v).x = s.x := rfl
@[simp] theorem State.setY_y (v : Byte) : (s.setY v).y = v := rfl
@[simp] theorem State.setY_sp (v : Byte) : (s.setY v).sp = s.sp := rfl
@[simp] theorem State.setY_pc (v : Byte) : (s.setY v).pc = s.pc := rfl
@[simp] theorem State.setY_p (v : Byte) : (s.setY v).p = s.p := rfl
@[simp] theorem State.setY_cycles (v : Byte) : (s.setY v).cycles = s.cycles := rfl
@[simp] theorem State.setY_irqPending (v : Byte) : (s.setY v).irqPending = s.irqPending := rfl
@[simp] theorem State.setY_nmiPending (v : Byte) : (s.setY v).nmiPending = s.nmiPending := rfl
@[simp] theorem State.setY_fault (v : Byte) : (s.setY v).fault = s.fault := rfl
@[simp] theorem State.setY_mem (v : Byte) : (s.setY v).mem = s.mem := rfl

/-! ### setSp -/

@[simp] theorem State.setSp_a (v : Byte) : (s.setSp v).a = s.a := rfl
@[simp] theorem State.setSp_x (v : Byte) : (s.setSp v).x = s.x := rfl
@[simp] theorem State.setSp_y (v : Byte) : (s.setSp v).y = s.y := rfl
@[simp] theorem State.setSp_sp (v : Byte) : (s.setSp v).sp = v := rfl
@[simp] theorem State.setSp_pc (v : Byte) : (s.setSp v).pc = s.pc := rfl
@[simp] theorem State.setSp_p (v : Byte) : (s.setSp v).p = s.p := rfl
@[simp] theorem State.setSp_cycles (v : Byte) : (s.setSp v).cycles = s.cycles := rfl
@[simp] theorem State.setSp_irqPending (v : Byte) : (s.setSp v).irqPending = s.irqPending := rfl
@[simp] theorem State.setSp_nmiPending (v : Byte) : (s.setSp v).nmiPending = s.nmiPending := rfl
@[simp] theorem State.setSp_fault (v : Byte) : (s.setSp v).fault = s.fault := rfl
@[simp] theorem State.setSp_mem (v : Byte) : (s.setSp v).mem = s.mem := rfl

/-! ### setPc -/

@[simp] theorem State.setPc_a (v : Addr) : (s.setPc v).a = s.a := rfl
@[simp] theorem State.setPc_x (v : Addr) : (s.setPc v).x = s.x := rfl
@[simp] theorem State.setPc_y (v : Addr) : (s.setPc v).y = s.y := rfl
@[simp] theorem State.setPc_sp (v : Addr) : (s.setPc v).sp = s.sp := rfl
@[simp] theorem State.setPc_pc (v : Addr) : (s.setPc v).pc = v := rfl
@[simp] theorem State.setPc_p (v : Addr) : (s.setPc v).p = s.p := rfl
@[simp] theorem State.setPc_cycles (v : Addr) : (s.setPc v).cycles = s.cycles := rfl
@[simp] theorem State.setPc_irqPending (v : Addr) : (s.setPc v).irqPending = s.irqPending := rfl
@[simp] theorem State.setPc_nmiPending (v : Addr) : (s.setPc v).nmiPending = s.nmiPending := rfl
@[simp] theorem State.setPc_fault (v : Addr) : (s.setPc v).fault = s.fault := rfl
@[simp] theorem State.setPc_mem (v : Addr) : (s.setPc v).mem = s.mem := rfl

/-! ### setP -/

@[simp] theorem State.setP_a (v : Status) : (s.setP v).a = s.a := rfl
@[simp] theorem State.setP_x (v : Status) : (s.setP v).x = s.x := rfl
@[simp] theorem State.setP_y (v : Status) : (s.setP v).y = s.y := rfl
@[simp] theorem State.setP_sp (v : Status) : (s.setP v).sp = s.sp := rfl
@[simp] theorem State.setP_pc (v : Status) : (s.setP v).pc = s.pc := rfl
@[simp] theorem State.setP_p (v : Status) : (s.setP v).p = v := rfl
@[simp] theorem State.setP_cycles (v : Status) : (s.setP v).cycles = s.cycles := rfl
@[simp] theorem State.setP_irqPending (v : Status) : (s.setP v).irqPending = s.irqPending := rfl
@[simp] theorem State.setP_nmiPending (v : Status) : (s.setP v).nmiPending = s.nmiPending := rfl
@[simp] theorem State.setP_fault (v : Status) : (s.setP v).fault = s.fault := rfl
@[simp] theorem State.setP_mem (v : Status) : (s.setP v).mem = s.mem := rfl

/-! ### addCycles -/

@[simp] theorem State.addCycles_a (n : Cycles) : (s.addCycles n).a = s.a := rfl
@[simp] theorem State.addCycles_x (n : Cycles) : (s.addCycles n).x = s.x := rfl
@[simp] theorem State.addCycles_y (n : Cycles) : (s.addCycles n).y = s.y := rfl
@[simp] theorem State.addCycles_sp (n : Cycles) : (s.addCycles n).sp = s.sp := rfl
@[simp] theorem State.addCycles_pc (n : Cycles) : (s.addCycles n).pc = s.pc := rfl
@[simp] theorem State.addCycles_p (n : Cycles) : (s.addCycles n).p = s.p := rfl
@[simp] theorem State.addCycles_cycles (n : Cycles) : (s.addCycles n).cycles = s.cycles + n := rfl
@[simp] theorem State.addCycles_irqPending (n : Cycles) : (s.addCycles n).irqPending = s.irqPending := rfl
@[simp] theorem State.addCycles_nmiPending (n : Cycles) : (s.addCycles n).nmiPending = s.nmiPending := rfl
@[simp] theorem State.addCycles_fault (n : Cycles) : (s.addCycles n).fault = s.fault := rfl
@[simp] theorem State.addCycles_mem (n : Cycles) : (s.addCycles n).mem = s.mem := rfl

/-! ### store -/

@[simp] theorem State.store_a (addr : Addr) (v : Byte) : (s.store addr v).a = s.a := rfl
@[simp] theorem State.store_x (addr : Addr) (v : Byte) : (s.store addr v).x = s.x := rfl
@[simp] theorem State.store_y (addr : Addr) (v : Byte) : (s.store addr v).y = s.y := rfl
@[simp] theorem State.store_sp (addr : Addr) (v : Byte) : (s.store addr v).sp = s.sp := rfl
@[simp] theorem State.store_pc (addr : Addr) (v : Byte) : (s.store addr v).pc = s.pc := rfl
@[simp] theorem State.store_p (addr : Addr) (v : Byte) : (s.store addr v).p = s.p := rfl
@[simp] theorem State.store_cycles (addr : Addr) (v : Byte) : (s.store addr v).cycles = s.cycles := rfl
@[simp] theorem State.store_irqPending (addr : Addr) (v : Byte) : (s.store addr v).irqPending = s.irqPending := rfl
@[simp] theorem State.store_nmiPending (addr : Addr) (v : Byte) : (s.store addr v).nmiPending = s.nmiPending := rfl
@[simp] theorem State.store_fault (addr : Addr) (v : Byte) : (s.store addr v).fault = s.fault := rfl
@[simp] theorem State.store_mem (addr : Addr) (v : Byte) : (s.store addr v).mem = s.mem.write addr.toNat v := rfl

/-! ### setNZ -/

@[simp] theorem State.setNZ_a (v : Byte) : (s.setNZ v).a = s.a := rfl
@[simp] theorem State.setNZ_x (v : Byte) : (s.setNZ v).x = s.x := rfl
@[simp] theorem State.setNZ_y (v : Byte) : (s.setNZ v).y = s.y := rfl
@[simp] theorem State.setNZ_sp (v : Byte) : (s.setNZ v).sp = s.sp := rfl
@[simp] theorem State.setNZ_pc (v : Byte) : (s.setNZ v).pc = s.pc := rfl
@[simp] theorem State.setNZ_p (v : Byte) : (s.setNZ v).p = s.p.setNZ v := rfl
@[simp] theorem State.setNZ_cycles (v : Byte) : (s.setNZ v).cycles = s.cycles := rfl
@[simp] theorem State.setNZ_irqPending (v : Byte) : (s.setNZ v).irqPending = s.irqPending := rfl
@[simp] theorem State.setNZ_nmiPending (v : Byte) : (s.setNZ v).nmiPending = s.nmiPending := rfl
@[simp] theorem State.setNZ_fault (v : Byte) : (s.setNZ v).fault = s.fault := rfl
@[simp] theorem State.setNZ_mem (v : Byte) : (s.setNZ v).mem = s.mem := rfl

/-! ### retire -/

@[simp] theorem State.retire_a (length : Addr) (cost : Cycles) : (s.retire length cost).a = s.a := rfl
@[simp] theorem State.retire_x (length : Addr) (cost : Cycles) : (s.retire length cost).x = s.x := rfl
@[simp] theorem State.retire_y (length : Addr) (cost : Cycles) : (s.retire length cost).y = s.y := rfl
@[simp] theorem State.retire_sp (length : Addr) (cost : Cycles) : (s.retire length cost).sp = s.sp := rfl
@[simp] theorem State.retire_pc (length : Addr) (cost : Cycles) : (s.retire length cost).pc = s.pc + length := rfl
@[simp] theorem State.retire_p (length : Addr) (cost : Cycles) : (s.retire length cost).p = s.p := rfl
@[simp] theorem State.retire_cycles (length : Addr) (cost : Cycles) : (s.retire length cost).cycles = s.cycles + cost := rfl
@[simp] theorem State.retire_irqPending (length : Addr) (cost : Cycles) : (s.retire length cost).irqPending = s.irqPending := rfl
@[simp] theorem State.retire_nmiPending (length : Addr) (cost : Cycles) : (s.retire length cost).nmiPending = s.nmiPending := rfl
@[simp] theorem State.retire_fault (length : Addr) (cost : Cycles) : (s.retire length cost).fault = s.fault := rfl
@[simp] theorem State.retire_mem (length : Addr) (cost : Cycles) : (s.retire length cost).mem = s.mem := rfl

/-! ### push -/

@[simp] theorem State.push_a (v : Byte) : (s.push v).a = s.a := rfl
@[simp] theorem State.push_x (v : Byte) : (s.push v).x = s.x := rfl
@[simp] theorem State.push_y (v : Byte) : (s.push v).y = s.y := rfl
@[simp] theorem State.push_sp (v : Byte) : (s.push v).sp = s.sp - 1 := rfl
@[simp] theorem State.push_pc (v : Byte) : (s.push v).pc = s.pc := rfl
@[simp] theorem State.push_p (v : Byte) : (s.push v).p = s.p := rfl
@[simp] theorem State.push_cycles (v : Byte) : (s.push v).cycles = s.cycles := rfl
@[simp] theorem State.push_irqPending (v : Byte) : (s.push v).irqPending = s.irqPending := rfl
@[simp] theorem State.push_nmiPending (v : Byte) : (s.push v).nmiPending = s.nmiPending := rfl
@[simp] theorem State.push_fault (v : Byte) : (s.push v).fault = s.fault := rfl
@[simp] theorem State.push_mem (v : Byte) : (s.push v).mem = s.mem.write (stackAddr s.sp).toNat v := rfl

/-! ### pull -/

@[simp] theorem State.pull_a : (s.pull).a = s.a := rfl
@[simp] theorem State.pull_x : (s.pull).x = s.x := rfl
@[simp] theorem State.pull_y : (s.pull).y = s.y := rfl
@[simp] theorem State.pull_sp : (s.pull).sp = s.sp + 1 := rfl
@[simp] theorem State.pull_pc : (s.pull).pc = s.pc := rfl
@[simp] theorem State.pull_p : (s.pull).p = s.p := rfl
@[simp] theorem State.pull_cycles : (s.pull).cycles = s.cycles := rfl
@[simp] theorem State.pull_irqPending : (s.pull).irqPending = s.irqPending := rfl
@[simp] theorem State.pull_nmiPending : (s.pull).nmiPending = s.nmiPending := rfl
@[simp] theorem State.pull_fault : (s.pull).fault = s.fault := rfl
@[simp] theorem State.pull_mem : (s.pull).mem = s.mem := rfl

/-! ### push16 -/

@[simp] theorem State.push16_a (w : Addr) : (s.push16 w).a = s.a := by simp [State.push16]
@[simp] theorem State.push16_x (w : Addr) : (s.push16 w).x = s.x := by simp [State.push16]
@[simp] theorem State.push16_y (w : Addr) : (s.push16 w).y = s.y := by simp [State.push16]
@[simp] theorem State.push16_sp (w : Addr) : (s.push16 w).sp = s.sp - 1 - 1 := by simp [State.push16]
@[simp] theorem State.push16_pc (w : Addr) : (s.push16 w).pc = s.pc := by simp [State.push16]
@[simp] theorem State.push16_p (w : Addr) : (s.push16 w).p = s.p := by simp [State.push16]
@[simp] theorem State.push16_cycles (w : Addr) : (s.push16 w).cycles = s.cycles := by simp [State.push16]
@[simp] theorem State.push16_irqPending (w : Addr) : (s.push16 w).irqPending = s.irqPending := by simp [State.push16]
@[simp] theorem State.push16_nmiPending (w : Addr) : (s.push16 w).nmiPending = s.nmiPending := by simp [State.push16]
@[simp] theorem State.push16_fault (w : Addr) : (s.push16 w).fault = s.fault := by simp [State.push16]
@[simp] theorem State.push16_mem (w : Addr) : (s.push16 w).mem = (s.push (hiByte w)).mem.write (stackAddr (s.sp - 1)).toNat (loByte w) := by simp [State.push16]

/-! ### pull16 -/

@[simp] theorem State.pull16_a : (s.pull16).a = s.a := by simp [State.pull16]
@[simp] theorem State.pull16_x : (s.pull16).x = s.x := by simp [State.pull16]
@[simp] theorem State.pull16_y : (s.pull16).y = s.y := by simp [State.pull16]
@[simp] theorem State.pull16_sp : (s.pull16).sp = s.sp + 1 + 1 := by simp [State.pull16]
@[simp] theorem State.pull16_pc : (s.pull16).pc = s.pc := by simp [State.pull16]
@[simp] theorem State.pull16_p : (s.pull16).p = s.p := by simp [State.pull16]
@[simp] theorem State.pull16_cycles : (s.pull16).cycles = s.cycles := by simp [State.pull16]
@[simp] theorem State.pull16_irqPending : (s.pull16).irqPending = s.irqPending := by simp [State.pull16]
@[simp] theorem State.pull16_nmiPending : (s.pull16).nmiPending = s.nmiPending := by simp [State.pull16]
@[simp] theorem State.pull16_fault : (s.pull16).fault = s.fault := by simp [State.pull16]
@[simp] theorem State.pull16_mem : (s.pull16).mem = s.mem := by simp [State.pull16]

/-! ### enter -/

@[simp] theorem State.enter_a (ret : Addr) (b : Bool) (vector : Addr) : (s.enter ret b vector).a = s.a := by simp [State.enter]
@[simp] theorem State.enter_x (ret : Addr) (b : Bool) (vector : Addr) : (s.enter ret b vector).x = s.x := by simp [State.enter]
@[simp] theorem State.enter_y (ret : Addr) (b : Bool) (vector : Addr) : (s.enter ret b vector).y = s.y := by simp [State.enter]
@[simp] theorem State.enter_sp (ret : Addr) (b : Bool) (vector : Addr) : (s.enter ret b vector).sp = s.sp - 1 - 1 - 1 := by simp [State.enter]
@[simp] theorem State.enter_p (ret : Addr) (b : Bool) (vector : Addr) : (s.enter ret b vector).p = { s.p with i := true } := by simp [State.enter]
@[simp] theorem State.enter_cycles (ret : Addr) (b : Bool) (vector : Addr) : (s.enter ret b vector).cycles = s.cycles := by simp [State.enter]
@[simp] theorem State.enter_irqPending (ret : Addr) (b : Bool) (vector : Addr) : (s.enter ret b vector).irqPending = s.irqPending := by simp [State.enter]
@[simp] theorem State.enter_nmiPending (ret : Addr) (b : Bool) (vector : Addr) : (s.enter ret b vector).nmiPending = s.nmiPending := by simp [State.enter]
@[simp] theorem State.enter_fault (ret : Addr) (b : Bool) (vector : Addr) : (s.enter ret b vector).fault = s.fault := by simp [State.enter]

/-! ### returnFromInterrupt -/

@[simp] theorem State.returnFromInterrupt_a : (s.returnFromInterrupt).a = s.a := by simp [State.returnFromInterrupt]
@[simp] theorem State.returnFromInterrupt_x : (s.returnFromInterrupt).x = s.x := by simp [State.returnFromInterrupt]
@[simp] theorem State.returnFromInterrupt_y : (s.returnFromInterrupt).y = s.y := by simp [State.returnFromInterrupt]
@[simp] theorem State.returnFromInterrupt_sp : (s.returnFromInterrupt).sp = s.sp + 1 + 1 + 1 := by simp [State.returnFromInterrupt]
@[simp] theorem State.returnFromInterrupt_pc : (s.returnFromInterrupt).pc = s.pull.pulled16 := rfl
@[simp] theorem State.returnFromInterrupt_p : (s.returnFromInterrupt).p = s.p.writeP s.pulled := by simp [State.returnFromInterrupt]
@[simp] theorem State.returnFromInterrupt_cycles : (s.returnFromInterrupt).cycles = s.cycles := by simp [State.returnFromInterrupt]
@[simp] theorem State.returnFromInterrupt_irqPending : (s.returnFromInterrupt).irqPending = s.irqPending := by simp [State.returnFromInterrupt]
@[simp] theorem State.returnFromInterrupt_nmiPending : (s.returnFromInterrupt).nmiPending = s.nmiPending := by simp [State.returnFromInterrupt]
@[simp] theorem State.returnFromInterrupt_fault : (s.returnFromInterrupt).fault = s.fault := by simp [State.returnFromInterrupt]
@[simp] theorem State.returnFromInterrupt_mem : (s.returnFromInterrupt).mem = s.mem := by simp [State.returnFromInterrupt]

/-! ### triggerIrq -/

@[simp] theorem State.triggerIrq_a : (s.triggerInterrupt true).a = s.a := rfl
@[simp] theorem State.triggerIrq_x : (s.triggerInterrupt true).x = s.x := rfl
@[simp] theorem State.triggerIrq_y : (s.triggerInterrupt true).y = s.y := rfl
@[simp] theorem State.triggerIrq_sp : (s.triggerInterrupt true).sp = s.sp := rfl
@[simp] theorem State.triggerIrq_pc : (s.triggerInterrupt true).pc = s.pc := rfl
@[simp] theorem State.triggerIrq_p : (s.triggerInterrupt true).p = s.p := rfl
@[simp] theorem State.triggerIrq_cycles : (s.triggerInterrupt true).cycles = s.cycles := rfl
@[simp] theorem State.triggerIrq_irqPending : (s.triggerInterrupt true).irqPending = true := rfl
@[simp] theorem State.triggerIrq_nmiPending : (s.triggerInterrupt true).nmiPending = s.nmiPending := rfl
@[simp] theorem State.triggerIrq_fault : (s.triggerInterrupt true).fault = s.fault := rfl
@[simp] theorem State.triggerIrq_mem : (s.triggerInterrupt true).mem = s.mem := rfl

/-! ### triggerNmi -/

@[simp] theorem State.triggerNmi_a : (s.triggerInterrupt false).a = s.a := rfl
@[simp] theorem State.triggerNmi_x : (s.triggerInterrupt false).x = s.x := rfl
@[simp] theorem State.triggerNmi_y : (s.triggerInterrupt false).y = s.y := rfl
@[simp] theorem State.triggerNmi_sp : (s.triggerInterrupt false).sp = s.sp := rfl
@[simp] theorem State.triggerNmi_pc : (s.triggerInterrupt false).pc = s.pc := rfl
@[simp] theorem State.triggerNmi_p : (s.triggerInterrupt false).p = s.p := rfl
@[simp] theorem State.triggerNmi_cycles : (s.triggerInterrupt false).cycles = s.cycles := rfl
@[simp] theorem State.triggerNmi_irqPending : (s.triggerInterrupt false).irqPending = s.irqPending := rfl
@[simp] theorem State.triggerNmi_nmiPending : (s.triggerInterrupt false).nmiPending = true := rfl
@[simp] theorem State.triggerNmi_fault : (s.triggerInterrupt false).fault = s.fault := rfl
@[simp] theorem State.triggerNmi_mem : (s.triggerInterrupt false).mem = s.mem := rfl

/-! ### Reading memory after an update that leaves it -/

@[simp] theorem State.load_setA (v : Byte) (at_ : Addr) : (s.setA v).load at_ = s.load at_ := rfl
@[simp] theorem State.load_setX (v : Byte) (at_ : Addr) : (s.setX v).load at_ = s.load at_ := rfl
@[simp] theorem State.load_setY (v : Byte) (at_ : Addr) : (s.setY v).load at_ = s.load at_ := rfl
@[simp] theorem State.load_setSp (v : Byte) (at_ : Addr) : (s.setSp v).load at_ = s.load at_ := rfl
@[simp] theorem State.load_setPc (v : Addr) (at_ : Addr) : (s.setPc v).load at_ = s.load at_ := rfl
@[simp] theorem State.load_setP (v : Status) (at_ : Addr) : (s.setP v).load at_ = s.load at_ := rfl
@[simp] theorem State.load_addCycles (n : Cycles) (at_ : Addr) : (s.addCycles n).load at_ = s.load at_ := rfl
@[simp] theorem State.load_setNZ (v : Byte) (at_ : Addr) : (s.setNZ v).load at_ = s.load at_ := rfl
@[simp] theorem State.load_retire (length : Addr) (cost : Cycles) (at_ : Addr) : (s.retire length cost).load at_ = s.load at_ := rfl
@[simp] theorem State.load_pull (at_ : Addr) : (s.pull).load at_ = s.load at_ := rfl
@[simp] theorem State.load_pull16 (at_ : Addr) : (s.pull16).load at_ = s.load at_ := rfl
@[simp] theorem State.load_returnFromInterrupt (at_ : Addr) : (s.returnFromInterrupt).load at_ = s.load at_ := rfl
@[simp] theorem State.load_triggerIrq (at_ : Addr) : (s.triggerInterrupt true).load at_ = s.load at_ := rfl
@[simp] theorem State.load_triggerNmi (at_ : Addr) : (s.triggerInterrupt false).load at_ = s.load at_ := rfl

/-! ### Status updates -/

/-- Two statuses that agree in every bit are equal. -/
theorem Status.ext_fields {p q : Status} (hn : p.n = q.n) (hv : p.v = q.v) (hb : p.b = q.b) (hd : p.d = q.d)
    (hi : p.i = q.i) (hz : p.z = q.z) (hc : p.c = q.c) : p = q := by
  cases p; cases q; simp_all

@[simp] theorem Status.setNZ_n (q : Status) (r : Byte) : (q.setNZ r).n = r.getLsbD 7 := rfl
@[simp] theorem Status.setNZ_v (q : Status) (r : Byte) : (q.setNZ r).v = q.v := rfl
@[simp] theorem Status.setNZ_b (q : Status) (r : Byte) : (q.setNZ r).b = q.b := rfl
@[simp] theorem Status.setNZ_d (q : Status) (r : Byte) : (q.setNZ r).d = q.d := rfl
@[simp] theorem Status.setNZ_i (q : Status) (r : Byte) : (q.setNZ r).i = q.i := rfl
@[simp] theorem Status.setNZ_z (q : Status) (r : Byte) : (q.setNZ r).z = decide (r = 0) := rfl
@[simp] theorem Status.setNZ_c (q : Status) (r : Byte) : (q.setNZ r).c = q.c := rfl

@[simp] theorem Status.writeP_n (q : Status) (r : Byte) : (q.writeP r).n = r.getLsbD 7 := rfl
@[simp] theorem Status.writeP_v (q : Status) (r : Byte) : (q.writeP r).v = r.getLsbD 6 := rfl
@[simp] theorem Status.writeP_b (q : Status) (r : Byte) : (q.writeP r).b = q.b := rfl
@[simp] theorem Status.writeP_d (q : Status) (r : Byte) : (q.writeP r).d = r.getLsbD 3 := rfl
@[simp] theorem Status.writeP_i (q : Status) (r : Byte) : (q.writeP r).i = r.getLsbD 2 := rfl
@[simp] theorem Status.writeP_z (q : Status) (r : Byte) : (q.writeP r).z = r.getLsbD 1 := rfl
@[simp] theorem Status.writeP_c (q : Status) (r : Byte) : (q.writeP r).c = r.getLsbD 0 := rfl

@[simp] theorem Status.adc_n (q : Status) (r m : Byte) : (q.adc r m).n = (adcResult r m q.c).getLsbD 7 := rfl
@[simp] theorem Status.adc_v (q : Status) (r m : Byte) : (q.adc r m).v = adcOverflow r m q.c := rfl
@[simp] theorem Status.adc_b (q : Status) (r m : Byte) : (q.adc r m).b = q.b := rfl
@[simp] theorem Status.adc_d (q : Status) (r m : Byte) : (q.adc r m).d = q.d := rfl
@[simp] theorem Status.adc_i (q : Status) (r m : Byte) : (q.adc r m).i = q.i := rfl
@[simp] theorem Status.adc_z (q : Status) (r m : Byte) : (q.adc r m).z = decide (adcResult r m q.c = 0) := rfl
@[simp] theorem Status.adc_c (q : Status) (r m : Byte) : (q.adc r m).c = adcCarry r m q.c := rfl

@[simp] theorem Status.sbc_n (q : Status) (r m : Byte) : (q.sbc r m).n = (sbcResult r m q.c).getLsbD 7 := rfl
@[simp] theorem Status.sbc_v (q : Status) (r m : Byte) : (q.sbc r m).v = sbcOverflow r m q.c := rfl
@[simp] theorem Status.sbc_b (q : Status) (r m : Byte) : (q.sbc r m).b = q.b := rfl
@[simp] theorem Status.sbc_d (q : Status) (r m : Byte) : (q.sbc r m).d = q.d := rfl
@[simp] theorem Status.sbc_i (q : Status) (r m : Byte) : (q.sbc r m).i = q.i := rfl
@[simp] theorem Status.sbc_z (q : Status) (r m : Byte) : (q.sbc r m).z = decide (sbcResult r m q.c = 0) := rfl
@[simp] theorem Status.sbc_c (q : Status) (r m : Byte) : (q.sbc r m).c = sbcCarry r m q.c := rfl

@[simp] theorem Status.bit_n (q : Status) (r m : Byte) : (q.bit r m).n = m.getLsbD 7 := rfl
@[simp] theorem Status.bit_v (q : Status) (r m : Byte) : (q.bit r m).v = m.getLsbD 6 := rfl
@[simp] theorem Status.bit_b (q : Status) (r m : Byte) : (q.bit r m).b = q.b := rfl
@[simp] theorem Status.bit_d (q : Status) (r m : Byte) : (q.bit r m).d = q.d := rfl
@[simp] theorem Status.bit_i (q : Status) (r m : Byte) : (q.bit r m).i = q.i := rfl
@[simp] theorem Status.bit_z (q : Status) (r m : Byte) : (q.bit r m).z = decide (r &&& m = 0) := rfl
@[simp] theorem Status.bit_c (q : Status) (r m : Byte) : (q.bit r m).c = q.c := rfl

@[simp] theorem Status.compare_n (q : Status) (r m : Byte) : (q.compare r m).n = (r - m).getLsbD 7 := rfl
@[simp] theorem Status.compare_v (q : Status) (r m : Byte) : (q.compare r m).v = q.v := rfl
@[simp] theorem Status.compare_b (q : Status) (r m : Byte) : (q.compare r m).b = q.b := rfl
@[simp] theorem Status.compare_d (q : Status) (r m : Byte) : (q.compare r m).d = q.d := rfl
@[simp] theorem Status.compare_i (q : Status) (r m : Byte) : (q.compare r m).i = q.i := rfl
@[simp] theorem Status.compare_z (q : Status) (r m : Byte) : (q.compare r m).z = decide (r = m) := rfl
@[simp] theorem Status.compare_c (q : Status) (r m : Byte) : (q.compare r m).c = decide (m.toNat ≤ r.toNat) := rfl

@[simp] theorem Status.shifted_n (q : Status) (out : Byte × Bool) : (q.shifted out).n = out.1.getLsbD 7 := rfl
@[simp] theorem Status.shifted_v (q : Status) (out : Byte × Bool) : (q.shifted out).v = q.v := rfl
@[simp] theorem Status.shifted_b (q : Status) (out : Byte × Bool) : (q.shifted out).b = q.b := rfl
@[simp] theorem Status.shifted_d (q : Status) (out : Byte × Bool) : (q.shifted out).d = q.d := rfl
@[simp] theorem Status.shifted_i (q : Status) (out : Byte × Bool) : (q.shifted out).i = q.i := rfl
@[simp] theorem Status.shifted_z (q : Status) (out : Byte × Bool) : (q.shifted out).z = decide (out.1 = 0) := rfl
@[simp] theorem Status.shifted_c (q : Status) (out : Byte × Bool) : (q.shifted out).c = out.2 := rfl

end Sys2Proof.Machine
end

