-- ==== Sys2Proof/Laws/Exec.lean ====
section
/-! SUPPORT. The effects the instruction families share, each by what it leaves in the state, and each instruction's meaning
over them: what a proof over all instructions rewrites with, so that it unfolds no meaning. -/

namespace Sys2Proof.Machine

/-! ## The shared effects -/

theorem effAdc_eq (m : Byte) (s : State) :
    effAdc m s = (s.setA (adcResult s.a m s.p.c)).setP (s.p.adc s.a m) := rfl

theorem effSbc_eq (m : Byte) (s : State) :
    effSbc m s = (s.setA (sbcResult s.a m s.p.c)).setP (s.p.sbc s.a m) := rfl

theorem effLogical_eq (r : Byte) (s : State) : effLogical r s = (s.setA r).setP (s.p.setNZ r) := rfl

theorem effBit_eq (m : Byte) (s : State) : effBit m s = s.setP (s.p.bit s.a m) := rfl

theorem effCompare_eq (r m : Byte) (s : State) : effCompare r m s = s.setP (s.p.compare r m) := rfl

theorem effShiftA_eq (f : Bool → Byte → Byte × Bool) (s : State) :
    effShiftA f s = (s.setA (f s.p.c s.a).1).setP (s.p.shifted (f s.p.c s.a)) := rfl

theorem effShift_eq (f : Bool → Byte → Byte × Bool) (addr : Addr) (s : State) :
    effShift f addr s =
      (s.store addr (f s.p.c (s.load addr)).1).setP (s.p.shifted (f s.p.c (s.load addr))) := rfl

theorem effInc_eq (addr : Addr) (s : State) :
    effInc addr s = (s.store addr (s.load addr + 1)).setP (s.p.setNZ (s.load addr + 1)) := rfl

theorem effDec_eq (addr : Addr) (s : State) :
    effDec addr s = (s.store addr (s.load addr - 1)).setP (s.p.setNZ (s.load addr - 1)) := rfl

theorem effLda_eq (m : Byte) (s : State) : effLda m s = (s.setA m).setP (s.p.setNZ m) := rfl

theorem effLdx_eq (m : Byte) (s : State) : effLdx m s = (s.setX m).setP (s.p.setNZ m) := rfl

theorem effLdy_eq (m : Byte) (s : State) : effLdy m s = (s.setY m).setP (s.p.setNZ m) := rfl

/-! ## Each instruction over the shared effects -/

variable (s : State)

@[simp] theorem exec_adcImm (v : Byte) : exec (.adcImm v) s =
    .next (State.retire 2 2 (effAdc v s)) := rfl

@[simp] theorem exec_adcZp (zp : Byte) : exec (.adcZp zp) s =
    .next (State.retire 2 3 (effAdc (s.load (eaZp zp)) s)) := rfl

@[simp] theorem exec_adcZpx (zp : Byte) : exec (.adcZpx zp) s =
    .next (State.retire 2 4 (effAdc (s.load (eaZpx zp s)) s)) := rfl

@[simp] theorem exec_adcAbs (addr : Addr) : exec (.adcAbs addr) s =
    .next (State.retire 3 4 (effAdc (s.load addr) s)) := rfl

@[simp] theorem exec_adcAbx (base : Addr) : exec (.adcAbx base) s =
    .next (State.retire 3 (4 + pagePenalty (crossed base s.x)) (effAdc (s.load (eaAbx base s)) s)) := rfl

@[simp] theorem exec_adcAby (base : Addr) : exec (.adcAby base) s =
    .next (State.retire 3 (4 + pagePenalty (crossed base s.y)) (effAdc (s.load (eaAby base s)) s)) := rfl

@[simp] theorem exec_adcIzx (zp : Byte) : exec (.adcIzx zp) s =
    .next (State.retire 2 6 (effAdc (s.load (eaIzx zp s)) s)) := rfl

@[simp] theorem exec_adcIzy (zp : Byte) : exec (.adcIzy zp) s =
    .next (State.retire 2 (5 + pagePenalty (crossed (zpPointer zp s) s.y)) (effAdc (s.load (eaIzy zp s)) s)) := rfl

@[simp] theorem exec_sbcImm (v : Byte) : exec (.sbcImm v) s =
    .next (State.retire 2 2 (effSbc v s)) := rfl

@[simp] theorem exec_sbcZp (zp : Byte) : exec (.sbcZp zp) s =
    .next (State.retire 2 3 (effSbc (s.load (eaZp zp)) s)) := rfl

@[simp] theorem exec_sbcZpx (zp : Byte) : exec (.sbcZpx zp) s =
    .next (State.retire 2 4 (effSbc (s.load (eaZpx zp s)) s)) := rfl

@[simp] theorem exec_sbcAbs (addr : Addr) : exec (.sbcAbs addr) s =
    .next (State.retire 3 4 (effSbc (s.load addr) s)) := rfl

@[simp] theorem exec_sbcAbx (base : Addr) : exec (.sbcAbx base) s =
    .next (State.retire 3 (4 + pagePenalty (crossed base s.x)) (effSbc (s.load (eaAbx base s)) s)) := rfl

@[simp] theorem exec_sbcAby (base : Addr) : exec (.sbcAby base) s =
    .next (State.retire 3 (4 + pagePenalty (crossed base s.y)) (effSbc (s.load (eaAby base s)) s)) := rfl

@[simp] theorem exec_sbcIzx (zp : Byte) : exec (.sbcIzx zp) s =
    .next (State.retire 2 6 (effSbc (s.load (eaIzx zp s)) s)) := rfl

@[simp] theorem exec_sbcIzy (zp : Byte) : exec (.sbcIzy zp) s =
    .next (State.retire 2 (5 + pagePenalty (crossed (zpPointer zp s) s.y)) (effSbc (s.load (eaIzy zp s)) s)) := rfl

@[simp] theorem exec_andImm (v : Byte) : exec (.andImm v) s =
    .next (State.retire 2 2 (effLogical (s.a &&& v) s)) := rfl

@[simp] theorem exec_andZp (zp : Byte) : exec (.andZp zp) s =
    .next (State.retire 2 3 (effLogical (s.a &&& (s.load (eaZp zp))) s)) := rfl

@[simp] theorem exec_andZpx (zp : Byte) : exec (.andZpx zp) s =
    .next (State.retire 2 4 (effLogical (s.a &&& (s.load (eaZpx zp s))) s)) := rfl

@[simp] theorem exec_andAbs (addr : Addr) : exec (.andAbs addr) s =
    .next (State.retire 3 4 (effLogical (s.a &&& (s.load addr)) s)) := rfl

@[simp] theorem exec_andAbx (base : Addr) : exec (.andAbx base) s =
    .next (State.retire 3 (4 + pagePenalty (crossed base s.x)) (effLogical (s.a &&& (s.load (eaAbx base s))) s)) := rfl

@[simp] theorem exec_andAby (base : Addr) : exec (.andAby base) s =
    .next (State.retire 3 (4 + pagePenalty (crossed base s.y)) (effLogical (s.a &&& (s.load (eaAby base s))) s)) := rfl

@[simp] theorem exec_andIzx (zp : Byte) : exec (.andIzx zp) s =
    .next (State.retire 2 6 (effLogical (s.a &&& (s.load (eaIzx zp s))) s)) := rfl

@[simp] theorem exec_andIzy (zp : Byte) : exec (.andIzy zp) s =
    .next (State.retire 2 (5 + pagePenalty (crossed (zpPointer zp s) s.y)) (effLogical (s.a &&& (s.load (eaIzy zp s))) s)) := rfl

@[simp] theorem exec_oraImm (v : Byte) : exec (.oraImm v) s =
    .next (State.retire 2 2 (effLogical (s.a ||| v) s)) := rfl

@[simp] theorem exec_oraZp (zp : Byte) : exec (.oraZp zp) s =
    .next (State.retire 2 3 (effLogical (s.a ||| (s.load (eaZp zp))) s)) := rfl

@[simp] theorem exec_oraZpx (zp : Byte) : exec (.oraZpx zp) s =
    .next (State.retire 2 4 (effLogical (s.a ||| (s.load (eaZpx zp s))) s)) := rfl

@[simp] theorem exec_oraAbs (addr : Addr) : exec (.oraAbs addr) s =
    .next (State.retire 3 4 (effLogical (s.a ||| (s.load addr)) s)) := rfl

@[simp] theorem exec_oraAbx (base : Addr) : exec (.oraAbx base) s =
    .next (State.retire 3 (4 + pagePenalty (crossed base s.x)) (effLogical (s.a ||| (s.load (eaAbx base s))) s)) := rfl

@[simp] theorem exec_oraAby (base : Addr) : exec (.oraAby base) s =
    .next (State.retire 3 (4 + pagePenalty (crossed base s.y)) (effLogical (s.a ||| (s.load (eaAby base s))) s)) := rfl

@[simp] theorem exec_oraIzx (zp : Byte) : exec (.oraIzx zp) s =
    .next (State.retire 2 6 (effLogical (s.a ||| (s.load (eaIzx zp s))) s)) := rfl

@[simp] theorem exec_oraIzy (zp : Byte) : exec (.oraIzy zp) s =
    .next (State.retire 2 (5 + pagePenalty (crossed (zpPointer zp s) s.y)) (effLogical (s.a ||| (s.load (eaIzy zp s))) s)) := rfl

@[simp] theorem exec_eorImm (v : Byte) : exec (.eorImm v) s =
    .next (State.retire 2 2 (effLogical (s.a ^^^ v) s)) := rfl

@[simp] theorem exec_eorZp (zp : Byte) : exec (.eorZp zp) s =
    .next (State.retire 2 3 (effLogical (s.a ^^^ (s.load (eaZp zp))) s)) := rfl

@[simp] theorem exec_eorZpx (zp : Byte) : exec (.eorZpx zp) s =
    .next (State.retire 2 4 (effLogical (s.a ^^^ (s.load (eaZpx zp s))) s)) := rfl

@[simp] theorem exec_eorAbs (addr : Addr) : exec (.eorAbs addr) s =
    .next (State.retire 3 4 (effLogical (s.a ^^^ (s.load addr)) s)) := rfl

@[simp] theorem exec_eorAbx (base : Addr) : exec (.eorAbx base) s =
    .next (State.retire 3 (4 + pagePenalty (crossed base s.x)) (effLogical (s.a ^^^ (s.load (eaAbx base s))) s)) := rfl

@[simp] theorem exec_eorAby (base : Addr) : exec (.eorAby base) s =
    .next (State.retire 3 (4 + pagePenalty (crossed base s.y)) (effLogical (s.a ^^^ (s.load (eaAby base s))) s)) := rfl

@[simp] theorem exec_eorIzx (zp : Byte) : exec (.eorIzx zp) s =
    .next (State.retire 2 6 (effLogical (s.a ^^^ (s.load (eaIzx zp s))) s)) := rfl

@[simp] theorem exec_eorIzy (zp : Byte) : exec (.eorIzy zp) s =
    .next (State.retire 2 (5 + pagePenalty (crossed (zpPointer zp s) s.y)) (effLogical (s.a ^^^ (s.load (eaIzy zp s))) s)) := rfl

@[simp] theorem exec_bitZp (zp : Byte) : exec (.bitZp zp) s =
    .next (State.retire 2 3 (effBit (s.load (eaZp zp)) s)) := rfl

@[simp] theorem exec_bitAbs (addr : Addr) : exec (.bitAbs addr) s =
    .next (State.retire 3 4 (effBit (s.load addr) s)) := rfl

@[simp] theorem exec_aslAcc : exec .aslAcc s =
    .next (State.retire 1 2 (effShiftA aslOut s)) := rfl

@[simp] theorem exec_aslZp (zp : Byte) : exec (.aslZp zp) s =
    .next (State.retire 2 5 (effShift aslOut (eaZp zp) s)) := rfl

@[simp] theorem exec_aslZpx (zp : Byte) : exec (.aslZpx zp) s =
    .next (State.retire 2 6 (effShift aslOut (eaZpx zp s) s)) := rfl

@[simp] theorem exec_aslAbs (addr : Addr) : exec (.aslAbs addr) s =
    .next (State.retire 3 6 (effShift aslOut addr s)) := rfl

@[simp] theorem exec_aslAbx (base : Addr) : exec (.aslAbx base) s =
    .next (State.retire 3 7 (effShift aslOut (eaAbx base s) s)) := rfl

@[simp] theorem exec_lsrAcc : exec .lsrAcc s =
    .next (State.retire 1 2 (effShiftA lsrOut s)) := rfl

@[simp] theorem exec_lsrZp (zp : Byte) : exec (.lsrZp zp) s =
    .next (State.retire 2 5 (effShift lsrOut (eaZp zp) s)) := rfl

@[simp] theorem exec_lsrZpx (zp : Byte) : exec (.lsrZpx zp) s =
    .next (State.retire 2 6 (effShift lsrOut (eaZpx zp s) s)) := rfl

@[simp] theorem exec_lsrAbs (addr : Addr) : exec (.lsrAbs addr) s =
    .next (State.retire 3 6 (effShift lsrOut addr s)) := rfl

@[simp] theorem exec_lsrAbx (base : Addr) : exec (.lsrAbx base) s =
    .next (State.retire 3 7 (effShift lsrOut (eaAbx base s) s)) := rfl

@[simp] theorem exec_rolAcc : exec .rolAcc s =
    .next (State.retire 1 2 (effShiftA rolOut s)) := rfl

@[simp] theorem exec_rolZp (zp : Byte) : exec (.rolZp zp) s =
    .next (State.retire 2 5 (effShift rolOut (eaZp zp) s)) := rfl

@[simp] theorem exec_rolZpx (zp : Byte) : exec (.rolZpx zp) s =
    .next (State.retire 2 6 (effShift rolOut (eaZpx zp s) s)) := rfl

@[simp] theorem exec_rolAbs (addr : Addr) : exec (.rolAbs addr) s =
    .next (State.retire 3 6 (effShift rolOut addr s)) := rfl

@[simp] theorem exec_rolAbx (base : Addr) : exec (.rolAbx base) s =
    .next (State.retire 3 7 (effShift rolOut (eaAbx base s) s)) := rfl

@[simp] theorem exec_rorAcc : exec .rorAcc s =
    .next (State.retire 1 2 (effShiftA rorOut s)) := rfl

@[simp] theorem exec_rorZp (zp : Byte) : exec (.rorZp zp) s =
    .next (State.retire 2 5 (effShift rorOut (eaZp zp) s)) := rfl

@[simp] theorem exec_rorZpx (zp : Byte) : exec (.rorZpx zp) s =
    .next (State.retire 2 6 (effShift rorOut (eaZpx zp s) s)) := rfl

@[simp] theorem exec_rorAbs (addr : Addr) : exec (.rorAbs addr) s =
    .next (State.retire 3 6 (effShift rorOut addr s)) := rfl

@[simp] theorem exec_rorAbx (base : Addr) : exec (.rorAbx base) s =
    .next (State.retire 3 7 (effShift rorOut (eaAbx base s) s)) := rfl

@[simp] theorem exec_cmpImm (v : Byte) : exec (.cmpImm v) s =
    .next (State.retire 2 2 (effCompare s.a v s)) := rfl

@[simp] theorem exec_cmpZp (zp : Byte) : exec (.cmpZp zp) s =
    .next (State.retire 2 3 (effCompare s.a (s.load (eaZp zp)) s)) := rfl

@[simp] theorem exec_cmpZpx (zp : Byte) : exec (.cmpZpx zp) s =
    .next (State.retire 2 4 (effCompare s.a (s.load (eaZpx zp s)) s)) := rfl

@[simp] theorem exec_cmpAbs (addr : Addr) : exec (.cmpAbs addr) s =
    .next (State.retire 3 4 (effCompare s.a (s.load addr) s)) := rfl

@[simp] theorem exec_cmpAbx (base : Addr) : exec (.cmpAbx base) s =
    .next (State.retire 3 (4 + pagePenalty (crossed base s.x)) (effCompare s.a (s.load (eaAbx base s)) s)) := rfl

@[simp] theorem exec_cmpAby (base : Addr) : exec (.cmpAby base) s =
    .next (State.retire 3 (4 + pagePenalty (crossed base s.y)) (effCompare s.a (s.load (eaAby base s)) s)) := rfl

@[simp] theorem exec_cmpIzx (zp : Byte) : exec (.cmpIzx zp) s =
    .next (State.retire 2 6 (effCompare s.a (s.load (eaIzx zp s)) s)) := rfl

@[simp] theorem exec_cmpIzy (zp : Byte) : exec (.cmpIzy zp) s =
    .next (State.retire 2 (5 + pagePenalty (crossed (zpPointer zp s) s.y)) (effCompare s.a (s.load (eaIzy zp s)) s)) := rfl

@[simp] theorem exec_cpxImm (v : Byte) : exec (.cpxImm v) s =
    .next (State.retire 2 2 (effCompare s.x v s)) := rfl

@[simp] theorem exec_cpxZp (zp : Byte) : exec (.cpxZp zp) s =
    .next (State.retire 2 3 (effCompare s.x (s.load (eaZp zp)) s)) := rfl

@[simp] theorem exec_cpxAbs (addr : Addr) : exec (.cpxAbs addr) s =
    .next (State.retire 3 4 (effCompare s.x (s.load addr) s)) := rfl

@[simp] theorem exec_cpyImm (v : Byte) : exec (.cpyImm v) s =
    .next (State.retire 2 2 (effCompare s.y v s)) := rfl

@[simp] theorem exec_cpyZp (zp : Byte) : exec (.cpyZp zp) s =
    .next (State.retire 2 3 (effCompare s.y (s.load (eaZp zp)) s)) := rfl

@[simp] theorem exec_cpyAbs (addr : Addr) : exec (.cpyAbs addr) s =
    .next (State.retire 3 4 (effCompare s.y (s.load addr) s)) := rfl

@[simp] theorem exec_incZp (zp : Byte) : exec (.incZp zp) s =
    .next (State.retire 2 5 (effInc (eaZp zp) s)) := rfl

@[simp] theorem exec_incZpx (zp : Byte) : exec (.incZpx zp) s =
    .next (State.retire 2 6 (effInc (eaZpx zp s) s)) := rfl

@[simp] theorem exec_incAbs (addr : Addr) : exec (.incAbs addr) s =
    .next (State.retire 3 6 (effInc addr s)) := rfl

@[simp] theorem exec_incAbx (base : Addr) : exec (.incAbx base) s =
    .next (State.retire 3 7 (effInc (eaAbx base s) s)) := rfl

@[simp] theorem exec_decZp (zp : Byte) : exec (.decZp zp) s =
    .next (State.retire 2 5 (effDec (eaZp zp) s)) := rfl

@[simp] theorem exec_decZpx (zp : Byte) : exec (.decZpx zp) s =
    .next (State.retire 2 6 (effDec (eaZpx zp s) s)) := rfl

@[simp] theorem exec_decAbs (addr : Addr) : exec (.decAbs addr) s =
    .next (State.retire 3 6 (effDec addr s)) := rfl

@[simp] theorem exec_decAbx (base : Addr) : exec (.decAbx base) s =
    .next (State.retire 3 7 (effDec (eaAbx base s) s)) := rfl

@[simp] theorem exec_inx : exec .inx s =
    .next (State.retire 1 2 ((s.setX (s.x + 1)).setNZ (s.x + 1))) := rfl

@[simp] theorem exec_iny : exec .iny s =
    .next (State.retire 1 2 ((s.setY (s.y + 1)).setNZ (s.y + 1))) := rfl

@[simp] theorem exec_dex : exec .dex s =
    .next (State.retire 1 2 ((s.setX (s.x - 1)).setNZ (s.x - 1))) := rfl

@[simp] theorem exec_dey : exec .dey s =
    .next (State.retire 1 2 ((s.setY (s.y - 1)).setNZ (s.y - 1))) := rfl

@[simp] theorem exec_ldaImm (v : Byte) : exec (.ldaImm v) s =
    .next (State.retire 2 2 (effLda v s)) := rfl

@[simp] theorem exec_ldaZp (zp : Byte) : exec (.ldaZp zp) s =
    .next (State.retire 2 3 (effLda (s.load (eaZp zp)) s)) := rfl

@[simp] theorem exec_ldaZpx (zp : Byte) : exec (.ldaZpx zp) s =
    .next (State.retire 2 4 (effLda (s.load (eaZpx zp s)) s)) := rfl

@[simp] theorem exec_ldaAbs (addr : Addr) : exec (.ldaAbs addr) s =
    .next (State.retire 3 4 (effLda (s.load addr) s)) := rfl

@[simp] theorem exec_ldaAbx (base : Addr) : exec (.ldaAbx base) s =
    .next (State.retire 3 (4 + pagePenalty (crossed base s.x)) (effLda (s.load (eaAbx base s)) s)) := rfl

@[simp] theorem exec_ldaAby (base : Addr) : exec (.ldaAby base) s =
    .next (State.retire 3 (4 + pagePenalty (crossed base s.y)) (effLda (s.load (eaAby base s)) s)) := rfl

@[simp] theorem exec_ldaIzx (zp : Byte) : exec (.ldaIzx zp) s =
    .next (State.retire 2 6 (effLda (s.load (eaIzx zp s)) s)) := rfl

@[simp] theorem exec_ldaIzy (zp : Byte) : exec (.ldaIzy zp) s =
    .next (State.retire 2 (5 + pagePenalty (crossed (zpPointer zp s) s.y)) (effLda (s.load (eaIzy zp s)) s)) := rfl

@[simp] theorem exec_ldxImm (v : Byte) : exec (.ldxImm v) s =
    .next (State.retire 2 2 (effLdx v s)) := rfl

@[simp] theorem exec_ldxZp (zp : Byte) : exec (.ldxZp zp) s =
    .next (State.retire 2 3 (effLdx (s.load (eaZp zp)) s)) := rfl

@[simp] theorem exec_ldxZpy (zp : Byte) : exec (.ldxZpy zp) s =
    .next (State.retire 2 4 (effLdx (s.load (eaZpy zp s)) s)) := rfl

@[simp] theorem exec_ldxAbs (addr : Addr) : exec (.ldxAbs addr) s =
    .next (State.retire 3 4 (effLdx (s.load addr) s)) := rfl

@[simp] theorem exec_ldxAby (base : Addr) : exec (.ldxAby base) s =
    .next (State.retire 3 (4 + pagePenalty (crossed base s.y)) (effLdx (s.load (eaAby base s)) s)) := rfl

@[simp] theorem exec_ldyImm (v : Byte) : exec (.ldyImm v) s =
    .next (State.retire 2 2 (effLdy v s)) := rfl

@[simp] theorem exec_ldyZp (zp : Byte) : exec (.ldyZp zp) s =
    .next (State.retire 2 3 (effLdy (s.load (eaZp zp)) s)) := rfl

@[simp] theorem exec_ldyZpx (zp : Byte) : exec (.ldyZpx zp) s =
    .next (State.retire 2 4 (effLdy (s.load (eaZpx zp s)) s)) := rfl

@[simp] theorem exec_ldyAbs (addr : Addr) : exec (.ldyAbs addr) s =
    .next (State.retire 3 4 (effLdy (s.load addr) s)) := rfl

@[simp] theorem exec_ldyAbx (base : Addr) : exec (.ldyAbx base) s =
    .next (State.retire 3 (4 + pagePenalty (crossed base s.x)) (effLdy (s.load (eaAbx base s)) s)) := rfl

@[simp] theorem exec_staZp (zp : Byte) : exec (.staZp zp) s =
    .next (State.retire 2 3 (s.store (eaZp zp) s.a)) := rfl

@[simp] theorem exec_staZpx (zp : Byte) : exec (.staZpx zp) s =
    .next (State.retire 2 4 (s.store (eaZpx zp s) s.a)) := rfl

@[simp] theorem exec_staAbs (addr : Addr) : exec (.staAbs addr) s =
    .next (State.retire 3 4 (s.store addr s.a)) := rfl

@[simp] theorem exec_staAbx (base : Addr) : exec (.staAbx base) s =
    .next (State.retire 3 5 (s.store (eaAbx base s) s.a)) := rfl

@[simp] theorem exec_staAby (base : Addr) : exec (.staAby base) s =
    .next (State.retire 3 5 (s.store (eaAby base s) s.a)) := rfl

@[simp] theorem exec_staIzx (zp : Byte) : exec (.staIzx zp) s =
    .next (State.retire 2 6 (s.store (eaIzx zp s) s.a)) := rfl

@[simp] theorem exec_staIzy (zp : Byte) : exec (.staIzy zp) s =
    .next (State.retire 2 6 (s.store (eaIzy zp s) s.a)) := rfl

@[simp] theorem exec_stxZp (zp : Byte) : exec (.stxZp zp) s =
    .next (State.retire 2 3 (s.store (eaZp zp) s.x)) := rfl

@[simp] theorem exec_stxZpy (zp : Byte) : exec (.stxZpy zp) s =
    .next (State.retire 2 4 (s.store (eaZpy zp s) s.x)) := rfl

@[simp] theorem exec_stxAbs (addr : Addr) : exec (.stxAbs addr) s =
    .next (State.retire 3 4 (s.store addr s.x)) := rfl

@[simp] theorem exec_styZp (zp : Byte) : exec (.styZp zp) s =
    .next (State.retire 2 3 (s.store (eaZp zp) s.y)) := rfl

@[simp] theorem exec_styZpx (zp : Byte) : exec (.styZpx zp) s =
    .next (State.retire 2 4 (s.store (eaZpx zp s) s.y)) := rfl

@[simp] theorem exec_styAbs (addr : Addr) : exec (.styAbs addr) s =
    .next (State.retire 3 4 (s.store addr s.y)) := rfl

@[simp] theorem exec_tax : exec .tax s =
    .next (State.retire 1 2 ((s.setX s.a).setNZ s.a)) := rfl

@[simp] theorem exec_tay : exec .tay s =
    .next (State.retire 1 2 ((s.setY s.a).setNZ s.a)) := rfl

@[simp] theorem exec_txa : exec .txa s =
    .next (State.retire 1 2 ((s.setA s.x).setNZ s.x)) := rfl

@[simp] theorem exec_tya : exec .tya s =
    .next (State.retire 1 2 ((s.setA s.y).setNZ s.y)) := rfl

@[simp] theorem exec_tsx : exec .tsx s =
    .next (State.retire 1 2 ((s.setX s.sp).setNZ s.sp)) := rfl

@[simp] theorem exec_txs : exec .txs s =
    .next (State.retire 1 2 (s.setSp s.x)) := rfl

@[simp] theorem exec_pha : exec .pha s =
    .next (State.retire 1 3 (s.push s.a)) := rfl

@[simp] theorem exec_pla : exec .pla s =
    .next (State.retire 1 4 ((s.pull.setA s.pulled).setNZ s.pulled)) := rfl

@[simp] theorem exec_php : exec .php s =
    .next (State.retire 1 3 (s.push (s.p.pushed true))) := rfl

@[simp] theorem exec_plp : exec .plp s =
    .next (State.retire 1 4 (s.pull.setP (s.p.writeP s.pulled))) := rfl

@[simp] theorem exec_jmpAbs (target : Addr) : exec (.jmpAbs target) s =
    .next ((s.setPc target).addCycles 3) := rfl

@[simp] theorem exec_jmpInd (ptr : Addr) : exec (.jmpInd ptr) s =
    .next ((s.setPc (eaInd Config.jmpIndPageWrap ptr s)).addCycles 5) := rfl

@[simp] theorem exec_jsr (target : Addr) : exec (.jsr target) s =
    .next (((s.push16 (s.pc + 2)).setPc target).addCycles 6) := rfl

@[simp] theorem exec_rts : exec .rts s =
    .next ((s.pull16.setPc (s.pulled16 + 1)).addCycles 6) := rfl

@[simp] theorem exec_rti : exec .rti s =
    .next (s.returnFromInterrupt.addCycles 6) := rfl

@[simp] theorem exec_brk : exec .brk s =
    .next ((s.enter (s.pc + 2) true irqVector).addCycles 7) := rfl

@[simp] theorem exec_bcc (disp : Byte) : exec (.bcc disp) s =
    .next
      (if (!s.p.c) = true then
        (s.setPc (eaRel disp s)).addCycles (3 + pagePenalty (decide (hiByte (eaRel disp s) ≠ hiByte (s.pc + 2))))
      else s.retire 2 2) := rfl

@[simp] theorem exec_bcs (disp : Byte) : exec (.bcs disp) s =
    .next
      (if s.p.c = true then
        (s.setPc (eaRel disp s)).addCycles (3 + pagePenalty (decide (hiByte (eaRel disp s) ≠ hiByte (s.pc + 2))))
      else s.retire 2 2) := rfl

@[simp] theorem exec_beq (disp : Byte) : exec (.beq disp) s =
    .next
      (if s.p.z = true then
        (s.setPc (eaRel disp s)).addCycles (3 + pagePenalty (decide (hiByte (eaRel disp s) ≠ hiByte (s.pc + 2))))
      else s.retire 2 2) := rfl

@[simp] theorem exec_bne (disp : Byte) : exec (.bne disp) s =
    .next
      (if (!s.p.z) = true then
        (s.setPc (eaRel disp s)).addCycles (3 + pagePenalty (decide (hiByte (eaRel disp s) ≠ hiByte (s.pc + 2))))
      else s.retire 2 2) := rfl

@[simp] theorem exec_bmi (disp : Byte) : exec (.bmi disp) s =
    .next
      (if s.p.n = true then
        (s.setPc (eaRel disp s)).addCycles (3 + pagePenalty (decide (hiByte (eaRel disp s) ≠ hiByte (s.pc + 2))))
      else s.retire 2 2) := rfl

@[simp] theorem exec_bpl (disp : Byte) : exec (.bpl disp) s =
    .next
      (if (!s.p.n) = true then
        (s.setPc (eaRel disp s)).addCycles (3 + pagePenalty (decide (hiByte (eaRel disp s) ≠ hiByte (s.pc + 2))))
      else s.retire 2 2) := rfl

@[simp] theorem exec_bvc (disp : Byte) : exec (.bvc disp) s =
    .next
      (if (!s.p.v) = true then
        (s.setPc (eaRel disp s)).addCycles (3 + pagePenalty (decide (hiByte (eaRel disp s) ≠ hiByte (s.pc + 2))))
      else s.retire 2 2) := rfl

@[simp] theorem exec_bvs (disp : Byte) : exec (.bvs disp) s =
    .next
      (if s.p.v = true then
        (s.setPc (eaRel disp s)).addCycles (3 + pagePenalty (decide (hiByte (eaRel disp s) ≠ hiByte (s.pc + 2))))
      else s.retire 2 2) := rfl

@[simp] theorem exec_clc : exec .clc s =
    .next (State.retire 1 2 (s.setP { s.p with c := false })) := rfl

@[simp] theorem exec_sec : exec .sec s =
    .next (State.retire 1 2 (s.setP { s.p with c := true })) := rfl

@[simp] theorem exec_cli : exec .cli s =
    .next (State.retire 1 2 (s.setP { s.p with i := false })) := rfl

@[simp] theorem exec_sei : exec .sei s =
    .next (State.retire 1 2 (s.setP { s.p with i := true })) := rfl

@[simp] theorem exec_cld : exec .cld s =
    .next (State.retire 1 2 (s.setP { s.p with d := false })) := rfl

@[simp] theorem exec_sed : exec .sed s =
    .next (State.retire 1 2 (s.setP { s.p with d := true })) := rfl

@[simp] theorem exec_clv : exec .clv s =
    .next (State.retire 1 2 (s.setP { s.p with v := false })) := rfl

@[simp] theorem exec_nop : exec .nop s =
    .next (State.retire 1 2 s) := rfl

end Sys2Proof.Machine
end

