-- ==== Sys2Proof/Laws/Memory.lean ====
section
/-! SUPPORT. The memory laws: what a read gives after a write, and that the canonical form is kept and determines a memory. -/

namespace Sys2Proof.Machine

theorem Memory.wfFrom_mono {low low' : Nat} (h : low' ≤ low) :
    ∀ {m : Memory}, Memory.wfFrom low m = true → Memory.wfFrom low' m = true
  | [], _ => rfl
  | (b, w) :: m, hm => by
    simp only [Memory.wfFrom, Bool.and_eq_true, decide_eq_true_eq] at hm ⊢
    exact ⟨⟨⟨by omega, hm.1.1.2⟩, hm.1.2⟩, hm.2⟩

/-- Below the first address it may list, a memory reads as the unlisted byte. -/
theorem Memory.read_below {low a : Nat} (h : a < low) :
    ∀ {m : Memory}, Memory.wfFrom low m = true → m.read a = Config.unlistedByte
  | [], _ => rfl
  | (b, w) :: m, hm => by
    simp only [Memory.wfFrom, Bool.and_eq_true, decide_eq_true_eq] at hm
    simp only [Memory.read, if_neg (show a ≠ b by omega)]
    exact Memory.read_below (by omega) hm.2

theorem Memory.read_cons_same (a : Nat) (v : Byte) {m : Memory} (h : m.read a = Config.unlistedByte) :
    (Memory.cons a v m).read a = v := by
  unfold Memory.cons
  split
  · simp_all
  · simp [Memory.read]

theorem Memory.read_cons_other {a a' : Nat} (h : a' ≠ a) (v : Byte) (m : Memory) :
    (Memory.cons a v m).read a' = m.read a' := by
  unfold Memory.cons
  split
  · rfl
  · simp [Memory.read, h]

theorem Memory.wfFrom_cons {low a : Nat} {v : Byte} {m : Memory} (hl : low ≤ a) (ha : a < 65536)
    (hm : Memory.wfFrom (a + 1) m = true) : Memory.wfFrom low (Memory.cons a v m) = true := by
  unfold Memory.cons
  split
  · exact Memory.wfFrom_mono (by omega) hm
  · simp_all [Memory.wfFrom]

/-- A write leaves every other address as it was. -/
theorem Memory.read_write_other {a a' : Nat} (h : a' ≠ a) (v : Byte) :
    ∀ m : Memory, (m.write a v).read a' = m.read a'
  | [] => Memory.read_cons_other h v []
  | (b, w) :: m => by
    unfold Memory.write
    split
    · exact Memory.read_cons_other h v _
    · split
      · next hb => rw [Memory.read_cons_other h]; simp [Memory.read, ← hb, h]
      · simp only [Memory.read, Memory.read_write_other h v m]

theorem Memory.read_writeFrom_same {low a : Nat} (v : Byte) :
    ∀ {m : Memory}, Memory.wfFrom low m = true → (m.write a v).read a = v
  | [], _ => Memory.read_cons_same a v rfl
  | (b, w) :: m, hm => by
    unfold Memory.write
    have hm' := hm
    simp only [Memory.wfFrom, Bool.and_eq_true, decide_eq_true_eq] at hm
    split
    · next hab =>
      refine Memory.read_cons_same a v (Memory.read_below (low := a + 1) (by omega) ?_)
      simp_all [Memory.wfFrom]
    · split
      · next hab => exact Memory.read_cons_same a v (Memory.read_below (by omega) (hab ▸ hm.2))
      · next hab hne =>
        simp only [Memory.read, if_neg hne]
        exact Memory.read_writeFrom_same v hm.2

/-- A read of the address written gives the byte written (spec/20_memory.md R57). -/
theorem Memory.read_write_same {m : Memory} (h : m.wf = true) (a : Nat) (v : Byte) : (m.write a v).read a = v :=
  Memory.read_writeFrom_same v h

theorem Memory.wfFrom_write {low a : Nat} (hl : low ≤ a) (ha : a < 65536) (v : Byte) :
    ∀ {m : Memory}, Memory.wfFrom low m = true → Memory.wfFrom low (m.write a v) = true
  | [], _ => Memory.wfFrom_cons hl ha rfl
  | (b, w) :: m, hm => by
    have hm' := hm
    simp only [Memory.wfFrom, Bool.and_eq_true, decide_eq_true_eq] at hm
    unfold Memory.write
    split
    · refine Memory.wfFrom_cons hl ha ?_
      simp_all [Memory.wfFrom]
    · split
      · next hab => exact Memory.wfFrom_cons hl ha (hab ▸ hm.2)
      · next hab hne =>
        simp only [Memory.wfFrom, Bool.and_eq_true, decide_eq_true_eq]
        exact ⟨hm.1, Memory.wfFrom_write (by omega) ha v hm.2⟩

/-- A write within the address space keeps the canonical form. -/
theorem Memory.wf_write {m : Memory} (h : m.wf = true) {a : Nat} (ha : a < 65536) (v : Byte) :
    (m.write a v).wf = true :=
  Memory.wfFrom_write (Nat.zero_le a) ha v h

/-- At an address of the machine: every one is below 65,536. -/
theorem Memory.wf_write_addr {m : Memory} (h : m.wf = true) (addr : Addr) (v : Byte) :
    (m.write addr.toNat v).wf = true :=
  Memory.wf_write h addr.isLt v

theorem Memory.ext_from {low : Nat} :
    ∀ {m m' : Memory}, Memory.wfFrom low m = true → Memory.wfFrom low m' = true →
      (∀ a, m.read a = m'.read a) → m = m'
  | [], [], _, _, _ => rfl
  | [], (b, w) :: m', _, hm', h => by
    have := h b
    simp_all [Memory.read, Memory.wfFrom]
  | (b, w) :: m, [], hm, _, h => by
    have := h b
    simp_all [Memory.read, Memory.wfFrom]
  | (b, w) :: m, (b', w') :: m', hm, hm', h => by
    have hm0 := hm
    have hm0' := hm'
    simp only [Memory.wfFrom, Bool.and_eq_true, decide_eq_true_eq] at hm hm'
    have hb : b = b' := by
      rcases lt_trichotomy b b' with hlt | heq | hgt
      · have h1 := h b
        have h2 : Memory.read ((b', w') :: m') b = Config.unlistedByte :=
          Memory.read_below (low := b + 1) (by omega) (by simp_all [Memory.wfFrom])
        rw [h2] at h1
        simp [Memory.read] at h1
        exact absurd h1 hm.1.2
      · exact heq
      · have h1 := h b'
        have h2 : Memory.read ((b, w) :: m) b' = Config.unlistedByte :=
          Memory.read_below (low := b' + 1) (by omega) (by simp_all [Memory.wfFrom])
        rw [h2] at h1
        simp [Memory.read] at h1
        exact absurd h1.symm hm'.1.2
    subst hb
    have hw : w = w' := by simpa [Memory.read] using h b
    subst hw
    congr 1
    refine Memory.ext_from hm.2 hm'.2 (fun a => ?_)
    by_cases hab : a = b
    · subst hab
      rw [Memory.read_below (Nat.lt_succ_self a) hm.2, Memory.read_below (Nat.lt_succ_self a) hm'.2]
    · simpa [Memory.read, hab] using h a

/-- Memories in canonical form that read alike are equal. -/
theorem Memory.ext {m m' : Memory} (hm : m.wf = true) (hm' : m'.wf = true) (h : ∀ a, m.read a = m'.read a) : m = m' :=
  Memory.ext_from hm hm' h

/-! ## The same laws for the machine's loads and stores -/

theorem State.load_store_same {s : State} (h : s.mem.wf = true) (addr : Addr) (v : Byte) :
    (s.store addr v).load addr = v :=
  Memory.read_write_same h addr.toNat v

theorem State.load_store_other (s : State) {addr addr' : Addr} (h : addr' ≠ addr) (v : Byte) :
    (s.store addr v).load addr' = s.load addr' :=
  Memory.read_write_other (fun he => h (BitVec.eq_of_toNat_eq he)) v s.mem

theorem State.wf_store {s : State} (h : s.mem.wf = true) (addr : Addr) (v : Byte) :
    (s.store addr v).mem.wf = true :=
  Memory.wf_write h addr.isLt v

end Sys2Proof.Machine
end

