-- ==== Sys2Proof/Laws/Words.lean ====
section
/-! SUPPORT. Words as two bytes, and the status byte. -/

namespace Sys2Proof

theorem wordOf_toNat (hi lo : Byte) : (wordOf hi lo).toNat = 256 * hi.toNat + lo.toNat := by
  have h : (wordOf hi lo).toNat = (hi ++ lo : BitVec (8 + 8)).toNat := rfl
  rw [h, BitVec.toNat_append, ← Nat.shiftLeft_add_eq_or_of_lt lo.isLt, Nat.shiftLeft_eq]
  omega

theorem loByte_toNat (w : Addr) : (loByte w).toNat = w.toNat % 256 := by
  simp [loByte]

theorem hiByte_toNat (w : Addr) : (hiByte w).toNat = w.toNat / 256 := by
  have := w.isLt
  simp only [hiByte, BitVec.extractLsb'_toNat, Nat.shiftRight_eq_div_pow]
  omega

@[simp] theorem loByte_wordOf (hi lo : Byte) : loByte (wordOf hi lo) = lo := by
  apply BitVec.eq_of_toNat_eq
  have := lo.isLt
  rw [loByte_toNat, wordOf_toNat]
  omega

@[simp] theorem hiByte_wordOf (hi lo : Byte) : hiByte (wordOf hi lo) = hi := by
  apply BitVec.eq_of_toNat_eq
  have := lo.isLt
  rw [hiByte_toNat, wordOf_toNat]
  omega

@[simp] theorem wordOf_hiByte_loByte (w : Addr) : wordOf (hiByte w) (loByte w) = w := by
  apply BitVec.eq_of_toNat_eq
  rw [wordOf_toNat, loByte_toNat, hiByte_toNat]
  omega

namespace Machine

/-! The bits of a pushed status byte (spec/10_state.md R27, R33, R36). -/

@[simp] theorem Status.pushed_bit7 (b : Bool) (p : Status) : (p.pushed b)[7] = p.n :=
  (by decide : ∀ n v b d i z c b' : Bool, (Status.pushed b' ⟨n, v, b, d, i, z, c⟩)[7] = n) p.n p.v p.b p.d p.i p.z p.c b

@[simp] theorem Status.pushed_bit6 (b : Bool) (p : Status) : (p.pushed b)[6] = p.v :=
  (by decide : ∀ n v b d i z c b' : Bool, (Status.pushed b' ⟨n, v, b, d, i, z, c⟩)[6] = v) p.n p.v p.b p.d p.i p.z p.c b

@[simp] theorem Status.pushed_bit5 (b : Bool) (p : Status) : (p.pushed b)[5] = true :=
  (by decide : ∀ n v b d i z c b' : Bool, (Status.pushed b' ⟨n, v, b, d, i, z, c⟩)[5] = true) p.n p.v p.b p.d p.i p.z p.c b

@[simp] theorem Status.pushed_bit4 (b : Bool) (p : Status) : (p.pushed b)[4] = b :=
  (by decide : ∀ n v b d i z c b' : Bool, (Status.pushed b' ⟨n, v, b, d, i, z, c⟩)[4] = b') p.n p.v p.b p.d p.i p.z p.c b

@[simp] theorem Status.pushed_bit3 (b : Bool) (p : Status) : (p.pushed b)[3] = p.d :=
  (by decide : ∀ n v b d i z c b' : Bool, (Status.pushed b' ⟨n, v, b, d, i, z, c⟩)[3] = d) p.n p.v p.b p.d p.i p.z p.c b

@[simp] theorem Status.pushed_bit2 (b : Bool) (p : Status) : (p.pushed b)[2] = p.i :=
  (by decide : ∀ n v b d i z c b' : Bool, (Status.pushed b' ⟨n, v, b, d, i, z, c⟩)[2] = i) p.n p.v p.b p.d p.i p.z p.c b

@[simp] theorem Status.pushed_bit1 (b : Bool) (p : Status) : (p.pushed b)[1] = p.z :=
  (by decide : ∀ n v b d i z c b' : Bool, (Status.pushed b' ⟨n, v, b, d, i, z, c⟩)[1] = z) p.n p.v p.b p.d p.i p.z p.c b

@[simp] theorem Status.pushed_bit0 (b : Bool) (p : Status) : (p.pushed b)[0] = p.c :=
  (by decide : ∀ n v b d i z c b' : Bool, (Status.pushed b' ⟨n, v, b, d, i, z, c⟩)[0] = c) p.n p.v p.b p.d p.i p.z p.c b

/-- `WriteP` after `PushedP` gives back the six flags a push carries (R36). -/
theorem Status.writeP_pushed (b : Bool) (p q : Status) : q.writeP (p.pushed b) = { p with b := q.b } := by
  simp [Status.writeP]

end Machine

end Sys2Proof
end

