-- ==== Sys2Proof/Laws/Ops.lean ====
section
/-! SUPPORT. What the shared operations do: the stack, interrupt entry, interrupt return, faults, Reset, and the end of an
instruction. -/

namespace Sys2Proof.Machine

/-! ## The stack page -/

theorem stackAddr_toNat (sp : Byte) : (stackAddr sp).toNat = 256 + sp.toNat := by
  have := sp.isLt
  simp [stackAddr]
  omega

@[simp] theorem hiByte_stackAddr (sp : Byte) : hiByte (stackAddr sp) = 0x01 := by
  apply BitVec.eq_of_toNat_eq
  have := sp.isLt
  rw [hiByte_toNat, stackAddr_toNat]
  simp
  omega

theorem stackAddr_inj {p q : Byte} : stackAddr p = stackAddr q ↔ p = q := by
  refine ⟨fun h => BitVec.eq_of_toNat_eq ?_, fun h => h ▸ rfl⟩
  have := congrArg BitVec.toNat h
  rw [stackAddr_toNat, stackAddr_toNat] at this
  omega

theorem ne_stackAddr {addr : Addr} (h : hiByte addr ≠ 0x01) (sp : Byte) : addr ≠ stackAddr sp := by
  rintro rfl
  exact h (hiByte_stackAddr sp)

/-! ## Push and pull -/

variable {s : State}

theorem State.wf_push (h : s.mem.wf = true) (v : Byte) : (s.push v).mem.wf = true :=
  State.wf_store h (stackAddr s.sp) v

theorem State.load_push_same (h : s.mem.wf = true) (v : Byte) : (s.push v).load (stackAddr s.sp) = v :=
  State.load_store_same h (stackAddr s.sp) v

theorem State.load_push_other (s : State) {addr : Addr} (h : addr ≠ stackAddr s.sp) (v : Byte) :
    (s.push v).load addr = s.load addr :=
  State.load_store_other s h v

/-- A push outside the stack page changes nothing. -/
theorem State.load_push_page (s : State) {addr : Addr} (h : hiByte addr ≠ 0x01) (v : Byte) :
    (s.push v).load addr = s.load addr :=
  State.load_push_other s (ne_stackAddr h s.sp) v

/-- A pull returns what the push before it wrote (spec/47_stack.md R210, R211). -/
theorem State.pulled_push (h : s.mem.wf = true) (v : Byte) : (s.push v).pulled = v := by
  have := State.load_push_same h v
  simpa [State.pulled] using this

theorem State.pull_push_sp (s : State) (v : Byte) : (s.push v).pull.sp = s.sp := by simp

theorem State.wf_push16 (h : s.mem.wf = true) (w : Addr) : (s.push16 w).mem.wf = true :=
  State.wf_push (State.wf_push h _) _

theorem sub_one_ne (p : Byte) : p - 1 ≠ p := by bv_omega

/-- The high byte lies at the address S designated (20_memory.md R54). -/
theorem State.load_push16_hi (h : s.mem.wf = true) (w : Addr) :
    (s.push16 w).load (stackAddr s.sp) = hiByte w := by
  have hne : stackAddr s.sp ≠ stackAddr (s.push (hiByte w)).sp := by
    rw [Ne, stackAddr_inj]; exact fun h => sub_one_ne s.sp h.symm
  rw [State.push16, State.load_push_other (s.push (hiByte w)) hne, State.load_push_same h]

/-- The low byte lies one below it (20_memory.md R54). -/
theorem State.load_push16_lo (h : s.mem.wf = true) (w : Addr) :
    (s.push16 w).load (stackAddr (s.sp - 1)) = loByte w :=
  State.load_push_same (State.wf_push h _) _

theorem State.load_push16_other (s : State) {addr : Addr} (h : addr ≠ stackAddr s.sp)
    (h' : addr ≠ stackAddr (s.sp - 1)) (w : Addr) : (s.push16 w).load addr = s.load addr := by
  have h'' : addr ≠ stackAddr (s.push (hiByte w)).sp := by simpa using h'
  rw [State.push16, State.load_push_other (s.push (hiByte w)) h'', State.load_push_other s h]

/-- Two pulls return the word the two pushes before them wrote. -/
theorem State.pulled16_push16 (h : s.mem.wf = true) (w : Addr) : (s.push16 w).pulled16 = w := by
  have hlo := State.load_push16_lo h w
  have hhi := State.load_push16_hi h w
  have h1 : (s.push16 w).sp + 1 = s.sp - 1 := by rw [State.push16_sp]; bv_omega
  have h2 : (s.push16 w).sp + 1 + 1 = s.sp := by rw [State.push16_sp]; bv_omega
  simp only [State.pulled16, State.pulled, State.pull_sp, State.load_pull]
  rw [h2, h1, hlo, hhi, wordOf_hiByte_loByte]

/-! ## Interrupt entry (60_exceptions.md R256) -/

theorem State.wf_enter (h : s.mem.wf = true) (ret : Addr) (b : Bool) (vector : Addr) :
    (s.enter ret b vector).mem.wf = true :=
  State.wf_push (State.wf_push16 h ret) _

/-- Outside the three stack bytes, memory is as before. -/
theorem State.load_enter_other (s : State) {addr : Addr} (h0 : addr ≠ stackAddr s.sp)
    (h1 : addr ≠ stackAddr (s.sp - 1)) (h2 : addr ≠ stackAddr (s.sp - 1 - 1)) (ret : Addr) (b : Bool) (vector : Addr) :
    (s.enter ret b vector).load addr = s.load addr := by
  have : ((s.push16 ret).push (s.p.pushed b)).load addr = s.load addr := by
    have h2' : addr ≠ stackAddr (s.push16 ret).sp := by simpa using h2
    rw [State.load_push_other (s.push16 ret) h2', State.load_push16_other s h0 h1]
  exact this

theorem State.load_enter_status (h : s.mem.wf = true) (ret : Addr) (b : Bool) (vector : Addr) :
    (s.enter ret b vector).load (stackAddr (s.sp - 1 - 1)) = s.p.pushed b :=
  State.load_push_same (State.wf_push16 h ret) _

theorem State.load_enter_lo (h : s.mem.wf = true) (ret : Addr) (b : Bool) (vector : Addr) :
    (s.enter ret b vector).load (stackAddr (s.sp - 1)) = loByte ret := by
  have hne : stackAddr (s.sp - 1) ≠ stackAddr (s.push16 ret).sp := by
    rw [Ne, stackAddr_inj, State.push16_sp]; bv_omega
  have := State.load_push_other (s.push16 ret) hne (s.p.pushed b)
  rw [State.load_push16_lo h] at this
  exact this

theorem State.load_enter_hi (h : s.mem.wf = true) (ret : Addr) (b : Bool) (vector : Addr) :
    (s.enter ret b vector).load (stackAddr s.sp) = hiByte ret := by
  have hne : stackAddr s.sp ≠ stackAddr (s.push16 ret).sp := by
    rw [Ne, stackAddr_inj, State.push16_sp]; bv_omega
  have := State.load_push_other (s.push16 ret) hne (s.p.pushed b)
  rw [State.load_push16_hi h] at this
  exact this

/-- A vector outside the stack page is read as it was before the pushes. -/
theorem State.enter_pc (s : State) {vector : Addr} (h : hiByte vector ≠ 0x01) (h' : hiByte (vector + 1) ≠ 0x01)
    (ret : Addr) (b : Bool) : (s.enter ret b vector).pc = s.load16 vector := by
  have l1 := State.load_push_page (s.push16 ret) h (s.p.pushed b)
  have l2 := State.load_push_page (s.push16 ret) h' (s.p.pushed b)
  have l3 := State.load_push16_other s (ne_stackAddr h s.sp) (ne_stackAddr h (s.sp - 1)) ret
  have l4 := State.load_push16_other s (ne_stackAddr h' s.sp) (ne_stackAddr h' (s.sp - 1)) ret
  show ((s.push16 ret).push (s.p.pushed b)).load16 vector = s.load16 vector
  rw [State.load16, State.load16, l1, l2, l3, l4]

theorem State.enter_mem (s : State) (ret : Addr) (b : Bool) (vector : Addr) :
    (s.enter ret b vector).mem = ((s.push16 ret).push (s.p.pushed b)).mem := rfl

/-- An interrupt service changes memory only at the three stack bytes. -/
theorem State.load_serviceNmi_other (s : State) {addr : Addr} (h0 : addr ≠ stackAddr s.sp)
    (h1 : addr ≠ stackAddr (s.sp - 1)) (h2 : addr ≠ stackAddr (s.sp - 1 - 1)) :
    s.serviceNmi.load addr = s.load addr := by
  rw [State.serviceNmi, State.enterInterrupt, State.load_addCycles]
  exact State.load_enter_other { s with nmiPending := false } h0 h1 h2 s.pc false nmiVector

theorem State.load_serviceIrq_other (s : State) {addr : Addr} (h0 : addr ≠ stackAddr s.sp)
    (h1 : addr ≠ stackAddr (s.sp - 1)) (h2 : addr ≠ stackAddr (s.sp - 1 - 1)) :
    s.serviceIrq.load addr = s.load addr := by
  rw [State.serviceIrq, State.enterInterrupt, State.load_addCycles]
  exact State.load_enter_other { s with irqPending := false } h0 h1 h2 s.pc false irqVector

/-! ## Interrupt return (48_control_transfer.md R223) -/

theorem State.returnFromInterrupt_eq (s : State) :
    s.returnFromInterrupt =
      { s with
        sp := s.sp + 1 + 1 + 1
        p := s.p.writeP (s.load (stackAddr (s.sp + 1)))
        pc := wordOf (s.load (stackAddr (s.sp + 1 + 1 + 1))) (s.load (stackAddr (s.sp + 1 + 1))) } := by
  simp only [State.returnFromInterrupt, State.pull16, State.pulled16, State.pulled, State.pull, State.setSp, State.setP,
    State.setPc, State.load]

/-! ## Reset and the end of an instruction -/

/-- Reset from the power-on state is the named reset state when the launch memory is all zero. -/
theorem State.afterFirstReset_nil : State.afterFirstReset [] = State.reset := by decide

theorem State.doReset_eq (s : State) :
    s.doReset =
      { s with
        a := 0x00, x := 0x00, y := 0x00, sp := 0xFF, pc := s.load16 resetVector, p := Status.reset
        cycles := s.cycles + 7, fault := none } := rfl

theorem complete_next (length : Addr) (cost : Cycles) (s t : State) :
    complete length cost s = .next t ↔ t = s.retire length cost :=
  ⟨fun h => by cases h; rfl, fun h => h ▸ rfl⟩

end Sys2Proof.Machine
end

