-- ==== Sys2Proof/Laws/PerInstr.lean ====
section
/-! SUPPORT. Facts about each instruction as syntax, one lemma per constructor. -/

namespace Sys2Proof.Laws.EncodingShape

/-- The encoding of an instruction begins with an opcode whose decode-table row is well-formed and gives the instruction's own
operation and mode, and it is as long as the mode says (spec/30_encoding.md R85, R86, R90). -/
def Statement (i : Instr) : Prop :=
  ∃ opcode operands r, encode i = opcode :: operands ∧ rowOf opcode = some r ∧ (r.desc.op, r.desc.mode) = i.form ∧
    r.desc.wf = true ∧ (encode i).length = i.mode.length

theorem adcImm (v : Byte) : Statement (.adcImm v) := ⟨_, _, _, rfl, rfl, rfl, rfl, rfl⟩
theorem adcZp (zp : Byte) : Statement (.adcZp zp) := ⟨_, _, _, rfl, rfl, rfl, rfl, rfl⟩
theorem adcZpx (zp : Byte) : Statement (.adcZpx zp) := ⟨_, _, _, rfl, rfl, rfl, rfl, rfl⟩
theorem adcAbs (addr : Addr) : Statement (.adcAbs addr) := ⟨_, _, _, rfl, rfl, rfl, rfl, rfl⟩
theorem adcAbx (base : Addr) : Statement (.adcAbx base) := ⟨_, _, _, rfl, rfl, rfl, rfl, rfl⟩
theorem adcAby (base : Addr) : Statement (.adcAby base) := ⟨_, _, _, rfl, rfl, rfl, rfl, rfl⟩
theorem adcIzx (zp : Byte) : Statement (.adcIzx zp) := ⟨_, _, _, rfl, rfl, rfl, rfl, rfl⟩
theorem adcIzy (zp : Byte) : Statement (.adcIzy zp) := ⟨_, _, _, rfl, rfl, rfl, rfl, rfl⟩
theorem sbcImm (v : Byte) : Statement (.sbcImm v) := ⟨_, _, _, rfl, rfl, rfl, rfl, rfl⟩
theorem sbcZp (zp : Byte) : Statement (.sbcZp zp) := ⟨_, _, _, rfl, rfl, rfl, rfl, rfl⟩
theorem sbcZpx (zp : Byte) : Statement (.sbcZpx zp) := ⟨_, _, _, rfl, rfl, rfl, rfl, rfl⟩
theorem sbcAbs (addr : Addr) : Statement (.sbcAbs addr) := ⟨_, _, _, rfl, rfl, rfl, rfl, rfl⟩
theorem sbcAbx (base : Addr) : Statement (.sbcAbx base) := ⟨_, _, _, rfl, rfl, rfl, rfl, rfl⟩
theorem sbcAby (base : Addr) : Statement (.sbcAby base) := ⟨_, _, _, rfl, rfl, rfl, rfl, rfl⟩
theorem sbcIzx (zp : Byte) : Statement (.sbcIzx zp) := ⟨_, _, _, rfl, rfl, rfl, rfl, rfl⟩
theorem sbcIzy (zp : Byte) : Statement (.sbcIzy zp) := ⟨_, _, _, rfl, rfl, rfl, rfl, rfl⟩
theorem andImm (v : Byte) : Statement (.andImm v) := ⟨_, _, _, rfl, rfl, rfl, rfl, rfl⟩
theorem andZp (zp : Byte) : Statement (.andZp zp) := ⟨_, _, _, rfl, rfl, rfl, rfl, rfl⟩
theorem andZpx (zp : Byte) : Statement (.andZpx zp) := ⟨_, _, _, rfl, rfl, rfl, rfl, rfl⟩
theorem andAbs (addr : Addr) : Statement (.andAbs addr) := ⟨_, _, _, rfl, rfl, rfl, rfl, rfl⟩
theorem andAbx (base : Addr) : Statement (.andAbx base) := ⟨_, _, _, rfl, rfl, rfl, rfl, rfl⟩
theorem andAby (base : Addr) : Statement (.andAby base) := ⟨_, _, _, rfl, rfl, rfl, rfl, rfl⟩
theorem andIzx (zp : Byte) : Statement (.andIzx zp) := ⟨_, _, _, rfl, rfl, rfl, rfl, rfl⟩
theorem andIzy (zp : Byte) : Statement (.andIzy zp) := ⟨_, _, _, rfl, rfl, rfl, rfl, rfl⟩
theorem oraImm (v : Byte) : Statement (.oraImm v) := ⟨_, _, _, rfl, rfl, rfl, rfl, rfl⟩
theorem oraZp (zp : Byte) : Statement (.oraZp zp) := ⟨_, _, _, rfl, rfl, rfl, rfl, rfl⟩
theorem oraZpx (zp : Byte) : Statement (.oraZpx zp) := ⟨_, _, _, rfl, rfl, rfl, rfl, rfl⟩
theorem oraAbs (addr : Addr) : Statement (.oraAbs addr) := ⟨_, _, _, rfl, rfl, rfl, rfl, rfl⟩
theorem oraAbx (base : Addr) : Statement (.oraAbx base) := ⟨_, _, _, rfl, rfl, rfl, rfl, rfl⟩
theorem oraAby (base : Addr) : Statement (.oraAby base) := ⟨_, _, _, rfl, rfl, rfl, rfl, rfl⟩
theorem oraIzx (zp : Byte) : Statement (.oraIzx zp) := ⟨_, _, _, rfl, rfl, rfl, rfl, rfl⟩
theorem oraIzy (zp : Byte) : Statement (.oraIzy zp) := ⟨_, _, _, rfl, rfl, rfl, rfl, rfl⟩
theorem eorImm (v : Byte) : Statement (.eorImm v) := ⟨_, _, _, rfl, rfl, rfl, rfl, rfl⟩
theorem eorZp (zp : Byte) : Statement (.eorZp zp) := ⟨_, _, _, rfl, rfl, rfl, rfl, rfl⟩
theorem eorZpx (zp : Byte) : Statement (.eorZpx zp) := ⟨_, _, _, rfl, rfl, rfl, rfl, rfl⟩
theorem eorAbs (addr : Addr) : Statement (.eorAbs addr) := ⟨_, _, _, rfl, rfl, rfl, rfl, rfl⟩
theorem eorAbx (base : Addr) : Statement (.eorAbx base) := ⟨_, _, _, rfl, rfl, rfl, rfl, rfl⟩
theorem eorAby (base : Addr) : Statement (.eorAby base) := ⟨_, _, _, rfl, rfl, rfl, rfl, rfl⟩
theorem eorIzx (zp : Byte) : Statement (.eorIzx zp) := ⟨_, _, _, rfl, rfl, rfl, rfl, rfl⟩
theorem eorIzy (zp : Byte) : Statement (.eorIzy zp) := ⟨_, _, _, rfl, rfl, rfl, rfl, rfl⟩
theorem bitZp (zp : Byte) : Statement (.bitZp zp) := ⟨_, _, _, rfl, rfl, rfl, rfl, rfl⟩
theorem bitAbs (addr : Addr) : Statement (.bitAbs addr) := ⟨_, _, _, rfl, rfl, rfl, rfl, rfl⟩
theorem aslAcc : Statement .aslAcc := ⟨_, _, _, rfl, rfl, rfl, rfl, rfl⟩
theorem aslZp (zp : Byte) : Statement (.aslZp zp) := ⟨_, _, _, rfl, rfl, rfl, rfl, rfl⟩
theorem aslZpx (zp : Byte) : Statement (.aslZpx zp) := ⟨_, _, _, rfl, rfl, rfl, rfl, rfl⟩
theorem aslAbs (addr : Addr) : Statement (.aslAbs addr) := ⟨_, _, _, rfl, rfl, rfl, rfl, rfl⟩
theorem aslAbx (base : Addr) : Statement (.aslAbx base) := ⟨_, _, _, rfl, rfl, rfl, rfl, rfl⟩
theorem lsrAcc : Statement .lsrAcc := ⟨_, _, _, rfl, rfl, rfl, rfl, rfl⟩
theorem lsrZp (zp : Byte) : Statement (.lsrZp zp) := ⟨_, _, _, rfl, rfl, rfl, rfl, rfl⟩
theorem lsrZpx (zp : Byte) : Statement (.lsrZpx zp) := ⟨_, _, _, rfl, rfl, rfl, rfl, rfl⟩
theorem lsrAbs (addr : Addr) : Statement (.lsrAbs addr) := ⟨_, _, _, rfl, rfl, rfl, rfl, rfl⟩
theorem lsrAbx (base : Addr) : Statement (.lsrAbx base) := ⟨_, _, _, rfl, rfl, rfl, rfl, rfl⟩
theorem rolAcc : Statement .rolAcc := ⟨_, _, _, rfl, rfl, rfl, rfl, rfl⟩
theorem rolZp (zp : Byte) : Statement (.rolZp zp) := ⟨_, _, _, rfl, rfl, rfl, rfl, rfl⟩
theorem rolZpx (zp : Byte) : Statement (.rolZpx zp) := ⟨_, _, _, rfl, rfl, rfl, rfl, rfl⟩
theorem rolAbs (addr : Addr) : Statement (.rolAbs addr) := ⟨_, _, _, rfl, rfl, rfl, rfl, rfl⟩
theorem rolAbx (base : Addr) : Statement (.rolAbx base) := ⟨_, _, _, rfl, rfl, rfl, rfl, rfl⟩
theorem rorAcc : Statement .rorAcc := ⟨_, _, _, rfl, rfl, rfl, rfl, rfl⟩
theorem rorZp (zp : Byte) : Statement (.rorZp zp) := ⟨_, _, _, rfl, rfl, rfl, rfl, rfl⟩
theorem rorZpx (zp : Byte) : Statement (.rorZpx zp) := ⟨_, _, _, rfl, rfl, rfl, rfl, rfl⟩
theorem rorAbs (addr : Addr) : Statement (.rorAbs addr) := ⟨_, _, _, rfl, rfl, rfl, rfl, rfl⟩
theorem rorAbx (base : Addr) : Statement (.rorAbx base) := ⟨_, _, _, rfl, rfl, rfl, rfl, rfl⟩
theorem cmpImm (v : Byte) : Statement (.cmpImm v) := ⟨_, _, _, rfl, rfl, rfl, rfl, rfl⟩
theorem cmpZp (zp : Byte) : Statement (.cmpZp zp) := ⟨_, _, _, rfl, rfl, rfl, rfl, rfl⟩
theorem cmpZpx (zp : Byte) : Statement (.cmpZpx zp) := ⟨_, _, _, rfl, rfl, rfl, rfl, rfl⟩
theorem cmpAbs (addr : Addr) : Statement (.cmpAbs addr) := ⟨_, _, _, rfl, rfl, rfl, rfl, rfl⟩
theorem cmpAbx (base : Addr) : Statement (.cmpAbx base) := ⟨_, _, _, rfl, rfl, rfl, rfl, rfl⟩
theorem cmpAby (base : Addr) : Statement (.cmpAby base) := ⟨_, _, _, rfl, rfl, rfl, rfl, rfl⟩
theorem cmpIzx (zp : Byte) : Statement (.cmpIzx zp) := ⟨_, _, _, rfl, rfl, rfl, rfl, rfl⟩
theorem cmpIzy (zp : Byte) : Statement (.cmpIzy zp) := ⟨_, _, _, rfl, rfl, rfl, rfl, rfl⟩
theorem cpxImm (v : Byte) : Statement (.cpxImm v) := ⟨_, _, _, rfl, rfl, rfl, rfl, rfl⟩
theorem cpxZp (zp : Byte) : Statement (.cpxZp zp) := ⟨_, _, _, rfl, rfl, rfl, rfl, rfl⟩
theorem cpxAbs (addr : Addr) : Statement (.cpxAbs addr) := ⟨_, _, _, rfl, rfl, rfl, rfl, rfl⟩
theorem cpyImm (v : Byte) : Statement (.cpyImm v) := ⟨_, _, _, rfl, rfl, rfl, rfl, rfl⟩
theorem cpyZp (zp : Byte) : Statement (.cpyZp zp) := ⟨_, _, _, rfl, rfl, rfl, rfl, rfl⟩
theorem cpyAbs (addr : Addr) : Statement (.cpyAbs addr) := ⟨_, _, _, rfl, rfl, rfl, rfl, rfl⟩
theorem incZp (zp : Byte) : Statement (.incZp zp) := ⟨_, _, _, rfl, rfl, rfl, rfl, rfl⟩
theorem incZpx (zp : Byte) : Statement (.incZpx zp) := ⟨_, _, _, rfl, rfl, rfl, rfl, rfl⟩
theorem incAbs (addr : Addr) : Statement (.incAbs addr) := ⟨_, _, _, rfl, rfl, rfl, rfl, rfl⟩
theorem incAbx (base : Addr) : Statement (.incAbx base) := ⟨_, _, _, rfl, rfl, rfl, rfl, rfl⟩
theorem decZp (zp : Byte) : Statement (.decZp zp) := ⟨_, _, _, rfl, rfl, rfl, rfl, rfl⟩
theorem decZpx (zp : Byte) : Statement (.decZpx zp) := ⟨_, _, _, rfl, rfl, rfl, rfl, rfl⟩
theorem decAbs (addr : Addr) : Statement (.decAbs addr) := ⟨_, _, _, rfl, rfl, rfl, rfl, rfl⟩
theorem decAbx (base : Addr) : Statement (.decAbx base) := ⟨_, _, _, rfl, rfl, rfl, rfl, rfl⟩
theorem inx : Statement .inx := ⟨_, _, _, rfl, rfl, rfl, rfl, rfl⟩
theorem iny : Statement .iny := ⟨_, _, _, rfl, rfl, rfl, rfl, rfl⟩
theorem dex : Statement .dex := ⟨_, _, _, rfl, rfl, rfl, rfl, rfl⟩
theorem dey : Statement .dey := ⟨_, _, _, rfl, rfl, rfl, rfl, rfl⟩
theorem ldaImm (v : Byte) : Statement (.ldaImm v) := ⟨_, _, _, rfl, rfl, rfl, rfl, rfl⟩
theorem ldaZp (zp : Byte) : Statement (.ldaZp zp) := ⟨_, _, _, rfl, rfl, rfl, rfl, rfl⟩
theorem ldaZpx (zp : Byte) : Statement (.ldaZpx zp) := ⟨_, _, _, rfl, rfl, rfl, rfl, rfl⟩
theorem ldaAbs (addr : Addr) : Statement (.ldaAbs addr) := ⟨_, _, _, rfl, rfl, rfl, rfl, rfl⟩
theorem ldaAbx (base : Addr) : Statement (.ldaAbx base) := ⟨_, _, _, rfl, rfl, rfl, rfl, rfl⟩
theorem ldaAby (base : Addr) : Statement (.ldaAby base) := ⟨_, _, _, rfl, rfl, rfl, rfl, rfl⟩
theorem ldaIzx (zp : Byte) : Statement (.ldaIzx zp) := ⟨_, _, _, rfl, rfl, rfl, rfl, rfl⟩
theorem ldaIzy (zp : Byte) : Statement (.ldaIzy zp) := ⟨_, _, _, rfl, rfl, rfl, rfl, rfl⟩
theorem ldxImm (v : Byte) : Statement (.ldxImm v) := ⟨_, _, _, rfl, rfl, rfl, rfl, rfl⟩
theorem ldxZp (zp : Byte) : Statement (.ldxZp zp) := ⟨_, _, _, rfl, rfl, rfl, rfl, rfl⟩
theorem ldxZpy (zp : Byte) : Statement (.ldxZpy zp) := ⟨_, _, _, rfl, rfl, rfl, rfl, rfl⟩
theorem ldxAbs (addr : Addr) : Statement (.ldxAbs addr) := ⟨_, _, _, rfl, rfl, rfl, rfl, rfl⟩
theorem ldxAby (base : Addr) : Statement (.ldxAby base) := ⟨_, _, _, rfl, rfl, rfl, rfl, rfl⟩
theorem ldyImm (v : Byte) : Statement (.ldyImm v) := ⟨_, _, _, rfl, rfl, rfl, rfl, rfl⟩
theorem ldyZp (zp : Byte) : Statement (.ldyZp zp) := ⟨_, _, _, rfl, rfl, rfl, rfl, rfl⟩
theorem ldyZpx (zp : Byte) : Statement (.ldyZpx zp) := ⟨_, _, _, rfl, rfl, rfl, rfl, rfl⟩
theorem ldyAbs (addr : Addr) : Statement (.ldyAbs addr) := ⟨_, _, _, rfl, rfl, rfl, rfl, rfl⟩
theorem ldyAbx (base : Addr) : Statement (.ldyAbx base) := ⟨_, _, _, rfl, rfl, rfl, rfl, rfl⟩
theorem staZp (zp : Byte) : Statement (.staZp zp) := ⟨_, _, _, rfl, rfl, rfl, rfl, rfl⟩
theorem staZpx (zp : Byte) : Statement (.staZpx zp) := ⟨_, _, _, rfl, rfl, rfl, rfl, rfl⟩
theorem staAbs (addr : Addr) : Statement (.staAbs addr) := ⟨_, _, _, rfl, rfl, rfl, rfl, rfl⟩
theorem staAbx (base : Addr) : Statement (.staAbx base) := ⟨_, _, _, rfl, rfl, rfl, rfl, rfl⟩
theorem staAby (base : Addr) : Statement (.staAby base) := ⟨_, _, _, rfl, rfl, rfl, rfl, rfl⟩
theorem staIzx (zp : Byte) : Statement (.staIzx zp) := ⟨_, _, _, rfl, rfl, rfl, rfl, rfl⟩
theorem staIzy (zp : Byte) : Statement (.staIzy zp) := ⟨_, _, _, rfl, rfl, rfl, rfl, rfl⟩
theorem stxZp (zp : Byte) : Statement (.stxZp zp) := ⟨_, _, _, rfl, rfl, rfl, rfl, rfl⟩
theorem stxZpy (zp : Byte) : Statement (.stxZpy zp) := ⟨_, _, _, rfl, rfl, rfl, rfl, rfl⟩
theorem stxAbs (addr : Addr) : Statement (.stxAbs addr) := ⟨_, _, _, rfl, rfl, rfl, rfl, rfl⟩
theorem styZp (zp : Byte) : Statement (.styZp zp) := ⟨_, _, _, rfl, rfl, rfl, rfl, rfl⟩
theorem styZpx (zp : Byte) : Statement (.styZpx zp) := ⟨_, _, _, rfl, rfl, rfl, rfl, rfl⟩
theorem styAbs (addr : Addr) : Statement (.styAbs addr) := ⟨_, _, _, rfl, rfl, rfl, rfl, rfl⟩
theorem tax : Statement .tax := ⟨_, _, _, rfl, rfl, rfl, rfl, rfl⟩
theorem tay : Statement .tay := ⟨_, _, _, rfl, rfl, rfl, rfl, rfl⟩
theorem txa : Statement .txa := ⟨_, _, _, rfl, rfl, rfl, rfl, rfl⟩
theorem tya : Statement .tya := ⟨_, _, _, rfl, rfl, rfl, rfl, rfl⟩
theorem tsx : Statement .tsx := ⟨_, _, _, rfl, rfl, rfl, rfl, rfl⟩
theorem txs : Statement .txs := ⟨_, _, _, rfl, rfl, rfl, rfl, rfl⟩
theorem pha : Statement .pha := ⟨_, _, _, rfl, rfl, rfl, rfl, rfl⟩
theorem pla : Statement .pla := ⟨_, _, _, rfl, rfl, rfl, rfl, rfl⟩
theorem php : Statement .php := ⟨_, _, _, rfl, rfl, rfl, rfl, rfl⟩
theorem plp : Statement .plp := ⟨_, _, _, rfl, rfl, rfl, rfl, rfl⟩
theorem jmpAbs (target : Addr) : Statement (.jmpAbs target) := ⟨_, _, _, rfl, rfl, rfl, rfl, rfl⟩
theorem jmpInd (ptr : Addr) : Statement (.jmpInd ptr) := ⟨_, _, _, rfl, rfl, rfl, rfl, rfl⟩
theorem jsr (target : Addr) : Statement (.jsr target) := ⟨_, _, _, rfl, rfl, rfl, rfl, rfl⟩
theorem rts : Statement .rts := ⟨_, _, _, rfl, rfl, rfl, rfl, rfl⟩
theorem rti : Statement .rti := ⟨_, _, _, rfl, rfl, rfl, rfl, rfl⟩
theorem brk : Statement .brk := ⟨_, _, _, rfl, rfl, rfl, rfl, rfl⟩
theorem bcc (disp : Byte) : Statement (.bcc disp) := ⟨_, _, _, rfl, rfl, rfl, rfl, rfl⟩
theorem bcs (disp : Byte) : Statement (.bcs disp) := ⟨_, _, _, rfl, rfl, rfl, rfl, rfl⟩
theorem beq (disp : Byte) : Statement (.beq disp) := ⟨_, _, _, rfl, rfl, rfl, rfl, rfl⟩
theorem bne (disp : Byte) : Statement (.bne disp) := ⟨_, _, _, rfl, rfl, rfl, rfl, rfl⟩
theorem bmi (disp : Byte) : Statement (.bmi disp) := ⟨_, _, _, rfl, rfl, rfl, rfl, rfl⟩
theorem bpl (disp : Byte) : Statement (.bpl disp) := ⟨_, _, _, rfl, rfl, rfl, rfl, rfl⟩
theorem bvc (disp : Byte) : Statement (.bvc disp) := ⟨_, _, _, rfl, rfl, rfl, rfl, rfl⟩
theorem bvs (disp : Byte) : Statement (.bvs disp) := ⟨_, _, _, rfl, rfl, rfl, rfl, rfl⟩
theorem clc : Statement .clc := ⟨_, _, _, rfl, rfl, rfl, rfl, rfl⟩
theorem sec : Statement .sec := ⟨_, _, _, rfl, rfl, rfl, rfl, rfl⟩
theorem cli : Statement .cli := ⟨_, _, _, rfl, rfl, rfl, rfl, rfl⟩
theorem sei : Statement .sei := ⟨_, _, _, rfl, rfl, rfl, rfl, rfl⟩
theorem cld : Statement .cld := ⟨_, _, _, rfl, rfl, rfl, rfl, rfl⟩
theorem sed : Statement .sed := ⟨_, _, _, rfl, rfl, rfl, rfl, rfl⟩
theorem clv : Statement .clv := ⟨_, _, _, rfl, rfl, rfl, rfl, rfl⟩
theorem nop : Statement .nop := ⟨_, _, _, rfl, rfl, rfl, rfl, rfl⟩

end Sys2Proof.Laws.EncodingShape
end

