-- ==== Sys2Proof/Laws/Step.lean ====
section
/-! SUPPORT. What a step and an action can do: the inversion lemmas every whole-machine claim starts from. -/

namespace Sys2Proof.Machine

/-- Every mode's document pair is defined, so InvalidOperand is never raised (spec/30_encoding.md R91). -/
@[simp] theorem pairDefined_true (m : Mode) : m.pairDefined = true := by cases m <;> rfl

/-! ## The fetch -/

@[simp] theorem State.fetchBytes_length (s : State) : s.fetchBytes.length = lengthOf (s.load s.pc) := by
  simp [State.fetchBytes]

/-- The first byte fetched is the one at PC, and the others are the operand bytes. -/
theorem State.fetchBytes_cons (s : State) :
    ∃ operands, s.fetchBytes = s.load s.pc :: operands ∧ operands.length = lengthOf (s.load s.pc) - 1 := by
  have hpos : lengthOf (s.load s.pc) = lengthOf (s.load s.pc) - 1 + 1 := by
    have : 0 < lengthOf (s.load s.pc) := by
      unfold lengthOf
      split
      · decide
      · simp only [Mode.length]; omega
    omega
  refine ⟨(s.fetchBytes).tail, ?_, by simp⟩
  unfold State.fetchBytes
  rw [hpos, List.range_succ_eq_map]
  simp

/-- What a fetch decodes to: an instruction with no byte over, or, for a byte with no decode-table entry, InvalidOpcode.
A fetch never ends inside an instruction. -/
theorem State.decode_fetchBytes (s : State) :
    (∃ i, decode s.fetchBytes = .instr i []) ∨
      (rowOf (s.load s.pc) = none ∧ decode s.fetchBytes = .error (.invalidOpcode (s.load s.pc))) := by
  obtain ⟨operands, hf, hl⟩ := s.fetchBytes_cons
  rw [hf]
  cases hr : rowOf (s.load s.pc) with
  | none => exact .inr ⟨rfl, decode_of_rowOf_none hr _⟩
  | some r =>
    left
    rw [decode_of_rowOf hr]
    refine Shape.build_exact _ _ ?_
    rw [hl, row_operandBytes r (rowOf_mem hr)]
    simp [lengthOf, hr, Mode.length]

/-! ## The step -/

/-- `ExecuteOne()` by whether the fetched bytes decode. -/
theorem State.executeOne_instr {s : State} {i : Instr} {rest : List Byte} (h : decode s.fetchBytes = .instr i rest) :
    s.executeOne = exec i s := by simp [State.executeOne, h]

theorem State.executeOne_error {s : State} {e : DecodeError} (h : decode s.fetchBytes = .error e) :
    s.executeOne = .next (s.raise .invalidOpcode) := by simp [State.executeOne, h]

/-- Everything `Step()` can do when it answers a next state (30_encoding.md R80): service an NMI, service an IRQ, execute the
decoded instruction, or raise InvalidOpcode. -/
theorem step_cases {s t : State} (h : step s = .next t) :
    s.fault = none ∧
      ((s.nmiPending = true ∧ t = s.serviceNmi) ∨
       (s.nmiPending = false ∧ s.irqPending = true ∧ s.p.i = false ∧ t = s.serviceIrq) ∨
       (s.interruptDue = false ∧ ∃ i rest, decode s.fetchBytes = .instr i rest ∧ exec i s = .next t) ∨
       (s.interruptDue = false ∧ ∃ e, decode s.fetchBytes = .error e ∧ t = s.raise .invalidOpcode)) := by
  unfold step at h
  split at h
  · cases h
  · next hf =>
    refine ⟨hf, ?_⟩
    split at h
    · next hn => exact .inl ⟨hn, by cases h; rfl⟩
    · next hn =>
      simp only [Bool.not_eq_true] at hn
      split at h
      · next hq =>
        simp only [Bool.and_eq_true, Bool.not_eq_true'] at hq
        exact .inr (.inl ⟨hn, hq.1, hq.2, by cases h; rfl⟩)
      · next hq =>
        simp only [Bool.not_eq_true] at hq
        have hd : s.interruptDue = false := by simp [State.interruptDue, hn, hq]
        cases hdec : decode s.fetchBytes with
        | instr i rest =>
          rw [State.executeOne_instr hdec] at h
          exact .inr (.inr (.inl ⟨hd, i, rest, rfl, h⟩))
        | error e =>
          rw [State.executeOne_error hdec] at h
          exact .inr (.inr (.inr ⟨hd, e, rfl, by cases h; rfl⟩))

/-- A running block with no interrupt due executes. -/
theorem step_executes {s : State} (h : s.executes) : step s = s.executeOne := by
  obtain ⟨hf, hd⟩ := h
  simp only [State.running] at hf
  simp only [State.interruptDue, Bool.or_eq_false_iff] at hd
  simp [step, hf, hd.1, hd.2]

/-- An action by its cases. -/
theorem act_cases (x : Action) (s : State) :
    (x = .reset ∧ act x s = s.doReset) ∨ (∃ m, x = .triggerInterrupt m ∧ act x s = s.triggerInterrupt m) ∨
      (x = .step ∧ step s = .next (act x s)) ∨ (x = .step ∧ act x s = s) := by
  cases x with
  | reset => exact .inl ⟨rfl, rfl⟩
  | triggerInterrupt m => exact .inr (.inl ⟨m, rfl, rfl⟩)
  | step =>
    right; right
    simp only [act]
    cases step s <;> simp

end Sys2Proof.Machine
end

