-- ==== Sys2Proof/Tests/Slice0.lean ====
section
/-! SUPPORT. Small tests: ill-formed rows refused, each constructor decoded from the bytes of its rule's "Encoding" line, one
step of the vectors of spec/95_test_vectors.md, and a witness for the hypotheses of each obligation. -/

namespace Sys2Proof.Tests

open Sys2Proof.Machine Sys2Proof.Claims

/-! ## WellFormed refuses -/

/-- 30_encoding.md R91: the accumulator takes no index register. -/
theorem test_wf_refuses_pair : DocMode.accumulator.indexAllowed .indexX = false := by decide

/-- R91: indirect indexed addressing exists with X before and Y after, and immediate with neither. -/
theorem test_wf_refuses_pair_immediate : DocMode.immediate.indexAllowed .indexY = false := by decide

/-- R111: STA has no immediate mode. -/
theorem test_wf_refuses_mode : (Desc.mk .STA .IMM 2 .none).wf = false := by decide

/-- R111: LDX is not indexed by X. -/
theorem test_wf_refuses_index : (Desc.mk .LDX .ABX 4 .page).wf = false := by decide

/-- R106: a store takes no page-crossing penalty. -/
theorem test_wf_refuses_penalty : (Desc.mk .STA .ABX 5 .page).wf = false := by decide

/-- R106: a read in ABX takes one. -/
theorem test_wf_refuses_no_penalty : (Desc.mk .LDA .ABX 4 .none).wf = false := by decide

/-- R83: no instruction takes fewer than two cycles. -/
theorem test_wf_refuses_base : (Desc.mk .NOP .IMP 1 .none).wf = false := by decide

/-! ## Decoding, from the rules' "Encoding" lines; operand bytes 0x34, 0x12 -/

/-- R140. -/
theorem test_decode_ADC :
    decode [0x69, 0x34] = .instr (.adcImm 0x34) [] ∧
    decode [0x65, 0x34] = .instr (.adcZp 0x34) [] ∧
    decode [0x75, 0x34] = .instr (.adcZpx 0x34) [] ∧
    decode [0x6D, 0x34, 0x12] = .instr (.adcAbs 0x1234) [] ∧
    decode [0x7D, 0x34, 0x12] = .instr (.adcAbx 0x1234) [] ∧
    decode [0x79, 0x34, 0x12] = .instr (.adcAby 0x1234) [] ∧
    decode [0x61, 0x34] = .instr (.adcIzx 0x34) [] ∧
    decode [0x71, 0x34] = .instr (.adcIzy 0x34) [] := by decide

/-- R141. -/
theorem test_decode_SBC :
    decode [0xE9, 0x34] = .instr (.sbcImm 0x34) [] ∧
    decode [0xE5, 0x34] = .instr (.sbcZp 0x34) [] ∧
    decode [0xF5, 0x34] = .instr (.sbcZpx 0x34) [] ∧
    decode [0xED, 0x34, 0x12] = .instr (.sbcAbs 0x1234) [] ∧
    decode [0xFD, 0x34, 0x12] = .instr (.sbcAbx 0x1234) [] ∧
    decode [0xF9, 0x34, 0x12] = .instr (.sbcAby 0x1234) [] ∧
    decode [0xE1, 0x34] = .instr (.sbcIzx 0x34) [] ∧
    decode [0xF1, 0x34] = .instr (.sbcIzy 0x34) [] := by decide

/-- R150. -/
theorem test_decode_AND :
    decode [0x29, 0x34] = .instr (.andImm 0x34) [] ∧
    decode [0x25, 0x34] = .instr (.andZp 0x34) [] ∧
    decode [0x35, 0x34] = .instr (.andZpx 0x34) [] ∧
    decode [0x2D, 0x34, 0x12] = .instr (.andAbs 0x1234) [] ∧
    decode [0x3D, 0x34, 0x12] = .instr (.andAbx 0x1234) [] ∧
    decode [0x39, 0x34, 0x12] = .instr (.andAby 0x1234) [] ∧
    decode [0x21, 0x34] = .instr (.andIzx 0x34) [] ∧
    decode [0x31, 0x34] = .instr (.andIzy 0x34) [] := by decide

/-- R151. -/
theorem test_decode_ORA :
    decode [0x09, 0x34] = .instr (.oraImm 0x34) [] ∧
    decode [0x05, 0x34] = .instr (.oraZp 0x34) [] ∧
    decode [0x15, 0x34] = .instr (.oraZpx 0x34) [] ∧
    decode [0x0D, 0x34, 0x12] = .instr (.oraAbs 0x1234) [] ∧
    decode [0x1D, 0x34, 0x12] = .instr (.oraAbx 0x1234) [] ∧
    decode [0x19, 0x34, 0x12] = .instr (.oraAby 0x1234) [] ∧
    decode [0x01, 0x34] = .instr (.oraIzx 0x34) [] ∧
    decode [0x11, 0x34] = .instr (.oraIzy 0x34) [] := by decide

/-- R152. -/
theorem test_decode_EOR :
    decode [0x49, 0x34] = .instr (.eorImm 0x34) [] ∧
    decode [0x45, 0x34] = .instr (.eorZp 0x34) [] ∧
    decode [0x55, 0x34] = .instr (.eorZpx 0x34) [] ∧
    decode [0x4D, 0x34, 0x12] = .instr (.eorAbs 0x1234) [] ∧
    decode [0x5D, 0x34, 0x12] = .instr (.eorAbx 0x1234) [] ∧
    decode [0x59, 0x34, 0x12] = .instr (.eorAby 0x1234) [] ∧
    decode [0x41, 0x34] = .instr (.eorIzx 0x34) [] ∧
    decode [0x51, 0x34] = .instr (.eorIzy 0x34) [] := by decide

/-- R153. -/
theorem test_decode_BIT :
    decode [0x24, 0x34] = .instr (.bitZp 0x34) [] ∧
    decode [0x2C, 0x34, 0x12] = .instr (.bitAbs 0x1234) [] := by decide

/-- R160. -/
theorem test_decode_ASL :
    decode [0x0A] = .instr .aslAcc [] ∧
    decode [0x06, 0x34] = .instr (.aslZp 0x34) [] ∧
    decode [0x16, 0x34] = .instr (.aslZpx 0x34) [] ∧
    decode [0x0E, 0x34, 0x12] = .instr (.aslAbs 0x1234) [] ∧
    decode [0x1E, 0x34, 0x12] = .instr (.aslAbx 0x1234) [] := by decide

/-- R161. -/
theorem test_decode_LSR :
    decode [0x4A] = .instr .lsrAcc [] ∧
    decode [0x46, 0x34] = .instr (.lsrZp 0x34) [] ∧
    decode [0x56, 0x34] = .instr (.lsrZpx 0x34) [] ∧
    decode [0x4E, 0x34, 0x12] = .instr (.lsrAbs 0x1234) [] ∧
    decode [0x5E, 0x34, 0x12] = .instr (.lsrAbx 0x1234) [] := by decide

/-- R162. -/
theorem test_decode_ROL :
    decode [0x2A] = .instr .rolAcc [] ∧
    decode [0x26, 0x34] = .instr (.rolZp 0x34) [] ∧
    decode [0x36, 0x34] = .instr (.rolZpx 0x34) [] ∧
    decode [0x2E, 0x34, 0x12] = .instr (.rolAbs 0x1234) [] ∧
    decode [0x3E, 0x34, 0x12] = .instr (.rolAbx 0x1234) [] := by decide

/-- R163. -/
theorem test_decode_ROR :
    decode [0x6A] = .instr .rorAcc [] ∧
    decode [0x66, 0x34] = .instr (.rorZp 0x34) [] ∧
    decode [0x76, 0x34] = .instr (.rorZpx 0x34) [] ∧
    decode [0x6E, 0x34, 0x12] = .instr (.rorAbs 0x1234) [] ∧
    decode [0x7E, 0x34, 0x12] = .instr (.rorAbx 0x1234) [] := by decide

/-- R171. -/
theorem test_decode_CMP :
    decode [0xC9, 0x34] = .instr (.cmpImm 0x34) [] ∧
    decode [0xC5, 0x34] = .instr (.cmpZp 0x34) [] ∧
    decode [0xD5, 0x34] = .instr (.cmpZpx 0x34) [] ∧
    decode [0xCD, 0x34, 0x12] = .instr (.cmpAbs 0x1234) [] ∧
    decode [0xDD, 0x34, 0x12] = .instr (.cmpAbx 0x1234) [] ∧
    decode [0xD9, 0x34, 0x12] = .instr (.cmpAby 0x1234) [] ∧
    decode [0xC1, 0x34] = .instr (.cmpIzx 0x34) [] ∧
    decode [0xD1, 0x34] = .instr (.cmpIzy 0x34) [] := by decide

/-- R172. -/
theorem test_decode_CPX :
    decode [0xE0, 0x34] = .instr (.cpxImm 0x34) [] ∧
    decode [0xE4, 0x34] = .instr (.cpxZp 0x34) [] ∧
    decode [0xEC, 0x34, 0x12] = .instr (.cpxAbs 0x1234) [] := by decide

/-- R173. -/
theorem test_decode_CPY :
    decode [0xC0, 0x34] = .instr (.cpyImm 0x34) [] ∧
    decode [0xC4, 0x34] = .instr (.cpyZp 0x34) [] ∧
    decode [0xCC, 0x34, 0x12] = .instr (.cpyAbs 0x1234) [] := by decide

/-- R180. -/
theorem test_decode_INC :
    decode [0xE6, 0x34] = .instr (.incZp 0x34) [] ∧
    decode [0xF6, 0x34] = .instr (.incZpx 0x34) [] ∧
    decode [0xEE, 0x34, 0x12] = .instr (.incAbs 0x1234) [] ∧
    decode [0xFE, 0x34, 0x12] = .instr (.incAbx 0x1234) [] := by decide

/-- R181. -/
theorem test_decode_DEC :
    decode [0xC6, 0x34] = .instr (.decZp 0x34) [] ∧
    decode [0xD6, 0x34] = .instr (.decZpx 0x34) [] ∧
    decode [0xCE, 0x34, 0x12] = .instr (.decAbs 0x1234) [] ∧
    decode [0xDE, 0x34, 0x12] = .instr (.decAbx 0x1234) [] := by decide

/-- R182. -/
theorem test_decode_INX :
    decode [0xE8] = .instr .inx [] := by decide

/-- R183. -/
theorem test_decode_INY :
    decode [0xC8] = .instr .iny [] := by decide

/-- R184. -/
theorem test_decode_DEX :
    decode [0xCA] = .instr .dex [] := by decide

/-- R185. -/
theorem test_decode_DEY :
    decode [0x88] = .instr .dey [] := by decide

/-- R190. -/
theorem test_decode_LDA :
    decode [0xA9, 0x34] = .instr (.ldaImm 0x34) [] ∧
    decode [0xA5, 0x34] = .instr (.ldaZp 0x34) [] ∧
    decode [0xB5, 0x34] = .instr (.ldaZpx 0x34) [] ∧
    decode [0xAD, 0x34, 0x12] = .instr (.ldaAbs 0x1234) [] ∧
    decode [0xBD, 0x34, 0x12] = .instr (.ldaAbx 0x1234) [] ∧
    decode [0xB9, 0x34, 0x12] = .instr (.ldaAby 0x1234) [] ∧
    decode [0xA1, 0x34] = .instr (.ldaIzx 0x34) [] ∧
    decode [0xB1, 0x34] = .instr (.ldaIzy 0x34) [] := by decide

/-- R191. -/
theorem test_decode_LDX :
    decode [0xA2, 0x34] = .instr (.ldxImm 0x34) [] ∧
    decode [0xA6, 0x34] = .instr (.ldxZp 0x34) [] ∧
    decode [0xB6, 0x34] = .instr (.ldxZpy 0x34) [] ∧
    decode [0xAE, 0x34, 0x12] = .instr (.ldxAbs 0x1234) [] ∧
    decode [0xBE, 0x34, 0x12] = .instr (.ldxAby 0x1234) [] := by decide

/-- R192. -/
theorem test_decode_LDY :
    decode [0xA0, 0x34] = .instr (.ldyImm 0x34) [] ∧
    decode [0xA4, 0x34] = .instr (.ldyZp 0x34) [] ∧
    decode [0xB4, 0x34] = .instr (.ldyZpx 0x34) [] ∧
    decode [0xAC, 0x34, 0x12] = .instr (.ldyAbs 0x1234) [] ∧
    decode [0xBC, 0x34, 0x12] = .instr (.ldyAbx 0x1234) [] := by decide

/-- R193. -/
theorem test_decode_STA :
    decode [0x85, 0x34] = .instr (.staZp 0x34) [] ∧
    decode [0x95, 0x34] = .instr (.staZpx 0x34) [] ∧
    decode [0x8D, 0x34, 0x12] = .instr (.staAbs 0x1234) [] ∧
    decode [0x9D, 0x34, 0x12] = .instr (.staAbx 0x1234) [] ∧
    decode [0x99, 0x34, 0x12] = .instr (.staAby 0x1234) [] ∧
    decode [0x81, 0x34] = .instr (.staIzx 0x34) [] ∧
    decode [0x91, 0x34] = .instr (.staIzy 0x34) [] := by decide

/-- R194. -/
theorem test_decode_STX :
    decode [0x86, 0x34] = .instr (.stxZp 0x34) [] ∧
    decode [0x96, 0x34] = .instr (.stxZpy 0x34) [] ∧
    decode [0x8E, 0x34, 0x12] = .instr (.stxAbs 0x1234) [] := by decide

/-- R195. -/
theorem test_decode_STY :
    decode [0x84, 0x34] = .instr (.styZp 0x34) [] ∧
    decode [0x94, 0x34] = .instr (.styZpx 0x34) [] ∧
    decode [0x8C, 0x34, 0x12] = .instr (.styAbs 0x1234) [] := by decide

/-- R200. -/
theorem test_decode_TAX :
    decode [0xAA] = .instr .tax [] := by decide

/-- R201. -/
theorem test_decode_TAY :
    decode [0xA8] = .instr .tay [] := by decide

/-- R202. -/
theorem test_decode_TXA :
    decode [0x8A] = .instr .txa [] := by decide

/-- R203. -/
theorem test_decode_TYA :
    decode [0x98] = .instr .tya [] := by decide

/-- R204. -/
theorem test_decode_TSX :
    decode [0xBA] = .instr .tsx [] := by decide

/-- R205. -/
theorem test_decode_TXS :
    decode [0x9A] = .instr .txs [] := by decide

/-- R212. -/
theorem test_decode_PHA :
    decode [0x48] = .instr .pha [] := by decide

/-- R213. -/
theorem test_decode_PLA :
    decode [0x68] = .instr .pla [] := by decide

/-- R214. -/
theorem test_decode_PHP :
    decode [0x08] = .instr .php [] := by decide

/-- R215. -/
theorem test_decode_PLP :
    decode [0x28] = .instr .plp [] := by decide

/-- R220. -/
theorem test_decode_JMP :
    decode [0x4C, 0x34, 0x12] = .instr (.jmpAbs 0x1234) [] ∧
    decode [0x6C, 0x34, 0x12] = .instr (.jmpInd 0x1234) [] := by decide

/-- R221. -/
theorem test_decode_JSR :
    decode [0x20, 0x34, 0x12] = .instr (.jsr 0x1234) [] := by decide

/-- R222. -/
theorem test_decode_RTS :
    decode [0x60] = .instr .rts [] := by decide

/-- R223. -/
theorem test_decode_RTI :
    decode [0x40] = .instr .rti [] := by decide

/-- R224. -/
theorem test_decode_BRK :
    decode [0x00] = .instr .brk [] := by decide

/-- R231. -/
theorem test_decode_BCC :
    decode [0x90, 0x34] = .instr (.bcc 0x34) [] := by decide

/-- R232. -/
theorem test_decode_BCS :
    decode [0xB0, 0x34] = .instr (.bcs 0x34) [] := by decide

/-- R233. -/
theorem test_decode_BEQ :
    decode [0xF0, 0x34] = .instr (.beq 0x34) [] := by decide

/-- R234. -/
theorem test_decode_BNE :
    decode [0xD0, 0x34] = .instr (.bne 0x34) [] := by decide

/-- R235. -/
theorem test_decode_BMI :
    decode [0x30, 0x34] = .instr (.bmi 0x34) [] := by decide

/-- R236. -/
theorem test_decode_BPL :
    decode [0x10, 0x34] = .instr (.bpl 0x34) [] := by decide

/-- R237. -/
theorem test_decode_BVC :
    decode [0x50, 0x34] = .instr (.bvc 0x34) [] := by decide

/-- R238. -/
theorem test_decode_BVS :
    decode [0x70, 0x34] = .instr (.bvs 0x34) [] := by decide

/-- R240. -/
theorem test_decode_CLC :
    decode [0x18] = .instr .clc [] := by decide

/-- R241. -/
theorem test_decode_SEC :
    decode [0x38] = .instr .sec [] := by decide

/-- R242. -/
theorem test_decode_CLI :
    decode [0x58] = .instr .cli [] := by decide

/-- R243. -/
theorem test_decode_SEI :
    decode [0x78] = .instr .sei [] := by decide

/-- R244. -/
theorem test_decode_CLD :
    decode [0xD8] = .instr .cld [] := by decide

/-- R245. -/
theorem test_decode_SED :
    decode [0xF8] = .instr .sed [] := by decide

/-- R246. -/
theorem test_decode_CLV :
    decode [0xB8] = .instr .clv [] := by decide

/-- R247. -/
theorem test_decode_NOP :
    decode [0xEA] = .instr .nop [] := by decide

/-- Operand bytes at their ends, and the bytes after an instruction left over. -/
theorem test_decode_rest : decode [0x4C, 0xFF, 0x00, 0xEA] = .instr (.jmpAbs 0x00FF) [0xEA] := by decide

/-- An instruction cut short. -/
theorem test_decode_truncated : decode [0x4C, 0x00] = .error .truncated := by decide

/-- The table's numbering of bits: the first byte is the lowest. -/
theorem test_table_word : decodeTableWord 24 0x1234AD = some (.ldaAbs 0x1234) := by decide

/-- A word placed by the host runs first after reset: LDA #$7F. -/
theorem test_fetch_word : ∃ t, step (State.reset.withFetchWord 16 0x7FA9) = .next t ∧ t.a = 0x7F := ⟨_, rfl, by decide⟩

/-! ## One step: the vectors of spec/95_test_vectors.md -/

/-- What a vector starts from where its row says nothing: A, X, Y zero, S 0xFF, PC 0x0200, P as given. -/
def start (p : Byte) (bytes : List Byte) (s : State) : State :=
  State.storeBytes bytes s.pc { s with p := { s.p.writeP p with b := p.getLsbD 4 } }

/-- The blank machine at 0x0200. -/
def blank : State := { State.reset with pc := 0x0200, cycles := 0 }

/-- A view of the state one step leaves. -/
def stepView {α : Type} (view : State → α) (s : State) : Option α :=
  match step s with
  | .next t => some (view t)
  | .fault _ => none
  | .refused _ => none

/-- V1: `ADC #$01`. -/
theorem test_V1_adcImm :
    stepView (fun t => (t.a, t.p.toByte, t.cycles))
      (start 0x34 [0x69, 0x01] { blank with a := 0xFF }) =
      some (0x00, 0x37, 2) := by decide

/-- V2: `ADC #$01`. -/
theorem test_V2_adcImm :
    stepView (fun t => (t.a, t.p.toByte, t.cycles))
      (start 0x34 [0x69, 0x01] { blank with a := 0x7F }) =
      some (0x80, 0xF4, 2) := by decide

/-- V6: `SBC #$01`. -/
theorem test_V6_sbcImm :
    stepView (fun t => (t.a, t.p.toByte, t.cycles))
      (start 0x35 [0xE9, 0x01] blank) =
      some (0xFF, 0xB4, 2) := by decide

/-- V7: `SBC #$01`. -/
theorem test_V7_sbcImm :
    stepView (fun t => (t.a, t.p.toByte, t.cycles))
      (start 0x35 [0xE9, 0x01] { blank with a := 0x80 }) =
      some (0x7F, 0x75, 2) := by decide

/-- V10: `ADC $10,X`. -/
theorem test_V10_adcZpx :
    stepView (fun t => (t.a, t.p.toByte, t.cycles))
      (start 0x34 [0x75, 0x10] { blank with a := 0x01, x := 0x02, mem := [(0x0012, 0x02)] }) =
      some (0x03, 0x34, 4) := by decide

/-- V11: `SBC $20FF,Y`. -/
theorem test_V11_sbcAby :
    stepView (fun t => (t.a, t.p.toByte, t.cycles))
      (start 0x35 [0xF9, 0xFF, 0x20] { blank with a := 0x05, y := 0x01, mem := [(0x2100, 0x03)] }) =
      some (0x02, 0x35, 5) := by decide

/-- V12: `AND #$00`. -/
theorem test_V12_andImm :
    stepView (fun t => (t.a, t.p.toByte, t.cycles))
      (start 0x34 [0x29, 0x00] { blank with a := 0xFF }) =
      some (0x00, 0x36, 2) := by decide

/-- V13: `ORA #$00`. -/
theorem test_V13_oraImm :
    stepView (fun t => (t.p.toByte, t.cycles))
      (start 0x34 [0x09, 0x00] blank) =
      some (0x36, 2) := by decide

/-- V14: `EOR #$FF`. -/
theorem test_V14_eorImm :
    stepView (fun t => (t.a, t.p.toByte, t.cycles))
      (start 0x34 [0x49, 0xFF] { blank with a := 0x55 }) =
      some (0xAA, 0xB4, 2) := by decide

/-- V15: `BIT $10`. -/
theorem test_V15_bitZp :
    stepView (fun t => (t.p.toByte, t.cycles))
      (start 0x34 [0x24, 0x10] { blank with a := 0x0F, mem := [(0x0010, 0xC0)] }) =
      some (0xF6, 3) := by decide

/-- V16: `BIT $1000`. -/
theorem test_V16_bitAbs :
    stepView (fun t => (t.p.toByte, t.cycles))
      (start 0xF6 [0x2C, 0x00, 0x10] { blank with a := 0xFF, mem := [(0x1000, 0x01)] }) =
      some (0x34, 4) := by decide

/-- V17: `AND ($20),Y`. -/
theorem test_V17_andIzy :
    stepView (fun t => (t.a, t.p.toByte, t.cycles))
      (start 0x34 [0x31, 0x20] { blank with a := 0xF0, y := 0x10, mem := [(0x0020, 0xF8), (0x0021, 0x30), (0x3108, 0x3C)] }) =
      some (0x30, 0x34, 6) := by decide

/-- V79: `ORA #$80`. -/
theorem test_V79_oraImm :
    stepView (fun t => (t.a, t.p.toByte, t.cycles))
      (start 0x34 [0x09, 0x80] { blank with a := 0x01 }) =
      some (0x81, 0xB4, 2) := by decide

/-- V18: `ASL A`. -/
theorem test_V18_aslAcc :
    stepView (fun t => (t.a, t.p.toByte, t.cycles))
      (start 0x34 [0x0A] { blank with a := 0x80 }) =
      some (0x00, 0x37, 2) := by decide

/-- V19: `LSR A`. -/
theorem test_V19_lsrAcc :
    stepView (fun t => (t.a, t.p.toByte, t.cycles))
      (start 0x34 [0x4A] { blank with a := 0x01 }) =
      some (0x00, 0x37, 2) := by decide

/-- V20: `ROL A`. -/
theorem test_V20_rolAcc :
    stepView (fun t => (t.a, t.p.toByte, t.cycles))
      (start 0x35 [0x2A] { blank with a := 0x80 }) =
      some (0x01, 0x35, 2) := by decide

/-- V21: `ROR A`. -/
theorem test_V21_rorAcc :
    stepView (fun t => (t.a, t.p.toByte, t.cycles))
      (start 0x35 [0x6A] { blank with a := 0x01 }) =
      some (0x80, 0xB5, 2) := by decide

/-- V22: `ASL $30FF,X`. -/
theorem test_V22_aslAbx :
    stepView (fun t => (t.load 0x3100, t.p.toByte, t.cycles))
      (start 0x34 [0x1E, 0xFF, 0x30] { blank with x := 0x01, mem := [(0x3100, 0x41)] }) =
      some (0x82, 0xB4, 7) := by decide

/-- V23: `ROR $10`. -/
theorem test_V23_rorZp :
    stepView (fun t => (t.load 0x0010, t.p.toByte, t.cycles))
      (start 0x34 [0x66, 0x10] { blank with mem := [(0x0010, 0x01)] }) =
      some (0x00, 0x37, 5) := by decide

/-- V24: `CMP #$41`. -/
theorem test_V24_cmpImm :
    stepView (fun t => (t.p.toByte, t.cycles))
      (start 0x34 [0xC9, 0x41] { blank with a := 0x40 }) =
      some (0xB4, 2) := by decide

/-- V25: `CMP #$00`. -/
theorem test_V25_cmpImm :
    stepView (fun t => (t.p.toByte, t.cycles))
      (start 0x34 [0xC9, 0x00] { blank with a := 0x80 }) =
      some (0xB5, 2) := by decide

/-- V26: `CPX #$FF`. -/
theorem test_V26_cpxImm :
    stepView (fun t => (t.p.toByte, t.cycles))
      (start 0x35 [0xE0, 0xFF] blank) =
      some (0x34, 2) := by decide

/-- V27: `CPY $10`. -/
theorem test_V27_cpyZp :
    stepView (fun t => (t.p.toByte, t.cycles))
      (start 0x34 [0xC4, 0x10] { blank with x := 0x50, y := 0x20, mem := [(0x0010, 0x20)] }) =
      some (0x37, 3) := by decide

/-- V28: `CMP $20FF,X`. -/
theorem test_V28_cmpAbx :
    stepView (fun t => (t.p.toByte, t.cycles))
      (start 0x34 [0xDD, 0xFF, 0x20] { blank with a := 0x01, x := 0x01, mem := [(0x2100, 0x01)] }) =
      some (0x37, 5) := by decide

/-- V29: `INC $10`. -/
theorem test_V29_incZp :
    stepView (fun t => (t.load 0x0010, t.p.toByte, t.cycles))
      (start 0x35 [0xE6, 0x10] { blank with mem := [(0x0010, 0xFF)] }) =
      some (0x00, 0x37, 5) := by decide

/-- V30: `DEC $10,X`. -/
theorem test_V30_decZpx :
    stepView (fun t => (t.load 0x0005, t.p.toByte, t.cycles))
      (start 0x34 [0xD6, 0x10] { blank with x := 0xF5, mem := [(0x0005, 0x01)] }) =
      some (0x00, 0x36, 6) := by decide

/-- V31: `INX`. -/
theorem test_V31_inx :
    stepView (fun t => (t.x, t.p.toByte, t.cycles))
      (start 0x34 [0xE8] { blank with x := 0xFF }) =
      some (0x00, 0x36, 2) := by decide

/-- V32: `DEY`. -/
theorem test_V32_dey :
    stepView (fun t => (t.y, t.p.toByte, t.cycles))
      (start 0xB4 [0x88] { blank with y := 0x80 }) =
      some (0x7F, 0x34, 2) := by decide

/-- V33: `INC $20FF,X`. -/
theorem test_V33_incAbx :
    stepView (fun t => (t.load 0x2100, t.p.toByte, t.cycles))
      (start 0x34 [0xFE, 0xFF, 0x20] { blank with x := 0x01, mem := [(0x2100, 0x7F)] }) =
      some (0x80, 0xB4, 7) := by decide

/-- V80: `INY`. -/
theorem test_V80_iny :
    stepView (fun t => (t.y, t.p.toByte, t.cycles))
      (start 0x34 [0xC8] { blank with y := 0x7F }) =
      some (0x80, 0xB4, 2) := by decide

/-- V81: `DEX`. -/
theorem test_V81_dex :
    stepView (fun t => (t.x, t.p.toByte, t.cycles))
      (start 0x36 [0xCA] blank) =
      some (0xFF, 0xB4, 2) := by decide

/-- V34: `LDA $FF,X`. -/
theorem test_V34_ldaZpx :
    stepView (fun t => (t.a, t.p.toByte, t.cycles))
      (start 0x34 [0xB5, 0xFF] { blank with x := 0x02, mem := [(0x0001, 0x77), (0x0101, 0x99)] }) =
      some (0x77, 0x34, 4) := by decide

/-- V35: `LDA $20FF,X`. -/
theorem test_V35_ldaAbx :
    stepView (fun t => (t.a, t.p.toByte, t.cycles))
      (start 0x34 [0xBD, 0xFF, 0x20] { blank with x := 0x01, mem := [(0x2100, 0x80)] }) =
      some (0x80, 0xB4, 5) := by decide

/-- V36: `LDA $2000,X`. -/
theorem test_V36_ldaAbx :
    stepView (fun t => (t.p.toByte, t.cycles))
      (start 0x34 [0xBD, 0x00, 0x20] { blank with x := 0x01 }) =
      some (0x36, 4) := by decide

/-- V37: `LDA ($FF,X)`. -/
theorem test_V37_ldaIzx :
    stepView (fun t => (t.a, t.p.toByte, t.cycles))
      (start 0x34 [0xA1, 0xFF] { blank with x := 0x01, mem := [(0x0000, 0x34), (0x0001, 0x12), (0x1234, 0x5A)] }) =
      some (0x5A, 0x34, 6) := by decide

/-- V38: `LDA ($FF),Y`. -/
theorem test_V38_ldaIzy :
    stepView (fun t => (t.a, t.p.toByte, t.cycles))
      (start 0x34 [0xB1, 0xFF] { blank with y := 0x01, mem := [(0x0000, 0x40), (0x4001, 0x11)] }) =
      some (0x11, 0x34, 5) := by decide

/-- V40: `LDX $10,Y`. -/
theorem test_V40_ldxZpy :
    stepView (fun t => (t.p.toByte, t.cycles))
      (start 0x34 [0xB6, 0x10] { blank with y := 0x05 }) =
      some (0x36, 4) := by decide

/-- V41: `LDY $20FF,X`. -/
theorem test_V41_ldyAbx :
    stepView (fun t => (t.y, t.p.toByte, t.cycles))
      (start 0x34 [0xBC, 0xFF, 0x20] { blank with x := 0x01, mem := [(0x2100, 0x01)] }) =
      some (0x01, 0x34, 5) := by decide

/-- V42: `STA $20FF,X`. -/
theorem test_V42_staAbx :
    stepView (fun t => (t.load 0x2100, t.p.toByte, t.cycles))
      (start 0x34 [0x9D, 0xFF, 0x20] { blank with a := 0x66, x := 0x01 }) =
      some (0x66, 0x34, 5) := by decide

/-- V43: `STA ($20),Y`. -/
theorem test_V43_staIzy :
    stepView (fun t => (t.load 0x3100, t.p.toByte, t.cycles))
      (start 0x34 [0x91, 0x20] { blank with a := 0x66, y := 0xFF, mem := [(0x0020, 0x01), (0x0021, 0x30)] }) =
      some (0x66, 0x34, 6) := by decide

/-- V44: `STX $10,Y`. -/
theorem test_V44_stxZpy :
    stepView (fun t => (t.load 0x0011, t.p.toByte, t.cycles))
      (start 0x34 [0x96, 0x10] { blank with x := 0xAB, y := 0x01 }) =
      some (0xAB, 0x34, 4) := by decide

/-- V82: `LDA #$80`. -/
theorem test_V82_ldaImm :
    stepView (fun t => (t.a, t.p.toByte, t.cycles))
      (start 0x36 [0xA9, 0x80] blank) =
      some (0x80, 0xB4, 2) := by decide

/-- V83: `STY $10,X`. -/
theorem test_V83_styZpx :
    stepView (fun t => (t.load 0x0005, t.p.toByte, t.cycles))
      (start 0x34 [0x94, 0x10] { blank with x := 0xF5, y := 0x9C }) =
      some (0x9C, 0x34, 4) := by decide

/-- V84: `LDX $20FF,Y`. -/
theorem test_V84_ldxAby :
    stepView (fun t => (t.x, t.p.toByte, t.cycles))
      (start 0x34 [0xBE, 0xFF, 0x20] { blank with y := 0x01, mem := [(0x2100, 0xFE)] }) =
      some (0xFE, 0xB4, 5) := by decide

/-- V85: `LDA ($20),Y`. -/
theorem test_V85_ldaIzy :
    stepView (fun t => (t.a, t.p.toByte, t.cycles))
      (start 0x34 [0xB1, 0x20] { blank with y := 0x01, mem := [(0x0021, 0x30), (0x3001, 0x01)] }) =
      some (0x01, 0x34, 5) := by decide

/-- V86: `STA $1234`. -/
theorem test_V86_staAbs :
    stepView (fun t => (t.p.toByte, t.cycles))
      (start 0xB5 [0x8D, 0x34, 0x12] blank) =
      some (0xB5, 4) := by decide

/-- V45: `TXS`. -/
theorem test_V45_txs :
    stepView (fun t => (t.sp, t.p.toByte, t.cycles))
      (start 0xB4 [0x9A] blank) =
      some (0x00, 0xB4, 2) := by decide

/-- V46: `TSX`. -/
theorem test_V46_tsx :
    stepView (fun t => (t.p.toByte, t.cycles))
      (start 0x34 [0xBA] { blank with sp := 0x00 }) =
      some (0x36, 2) := by decide

/-- V47: `TYA`. -/
theorem test_V47_tya :
    stepView (fun t => (t.a, t.p.toByte, t.cycles))
      (start 0x34 [0x98] { blank with a := 0x55 }) =
      some (0x00, 0x36, 2) := by decide

/-- V87: `TAX`. -/
theorem test_V87_tax :
    stepView (fun t => (t.x, t.p.toByte, t.cycles))
      (start 0x36 [0xAA] { blank with a := 0x80 }) =
      some (0x80, 0xB4, 2) := by decide

/-- V88: `TAY`. -/
theorem test_V88_tay :
    stepView (fun t => (t.y, t.p.toByte, t.cycles))
      (start 0x34 [0xA8] { blank with y := 0x33 }) =
      some (0x00, 0x36, 2) := by decide

/-- V89: `TXA`. -/
theorem test_V89_txa :
    stepView (fun t => (t.a, t.p.toByte, t.cycles))
      (start 0xB4 [0x8A] { blank with a := 0xFF, x := 0x01 }) =
      some (0x01, 0x34, 2) := by decide

/-- V48: `PHA`. -/
theorem test_V48_pha :
    stepView (fun t => (t.sp, t.load 0x0100, t.p.toByte, t.cycles))
      (start 0x34 [0x48] { blank with a := 0x12, sp := 0x00 }) =
      some (0xFF, 0x12, 0x34, 3) := by decide

/-- V49: `PLA`. -/
theorem test_V49_pla :
    stepView (fun t => (t.a, t.sp, t.p.toByte, t.cycles))
      (start 0x34 [0x68] { blank with mem := [(0x0100, 0x80)] }) =
      some (0x80, 0x00, 0xB4, 4) := by decide

/-- V50: `PHP`. -/
theorem test_V50_php :
    stepView (fun t => (t.sp, t.load 0x01FF, t.p.toByte, t.cycles))
      (start 0xF7 [0x08] blank) =
      some (0xFE, 0xF7, 0xF7, 3) := by decide

/-- V51: `PLP`. -/
theorem test_V51_plp :
    stepView (fun t => (t.sp, t.p.toByte, t.cycles))
      (start 0x34 [0x28] { blank with sp := 0xFE }) =
      some (0xFF, 0x30, 4) := by decide

/-- V52: `PLP`. -/
theorem test_V52_plp :
    stepView (fun t => (t.sp, t.p.toByte, t.cycles))
      (start 0x30 [0x28] { blank with sp := 0xFE, mem := [(0x01FF, 0xFF)] }) =
      some (0xFF, 0xFF, 4) := by decide

/-- V55: `JSR $1234`. -/
theorem test_V55_jsr :
    stepView (fun t => (t.sp, t.pc, t.load 0x0100, t.load 0x01FF, t.cycles))
      (start 0x34 [0x20, 0x34, 0x12] { blank with sp := 0x00 }) =
      some (0xFE, 0x1234, 0x02, 0x02, 6) := by decide

/-- V56: `RTS`. -/
theorem test_V56_rts :
    stepView (fun t => (t.sp, t.pc, t.cycles))
      (start 0x34 [0x60] { blank with sp := 0xFD, mem := [(0x01FE, 0xFF), (0x01FF, 0xFF)] }) =
      some (0xFF, 0x0000, 6) := by decide

/-- V57: `RTI`. -/
theorem test_V57_rti :
    stepView (fun t => (t.sp, t.pc, t.p.toByte, t.cycles))
      (start 0x34 [0x40] { blank with sp := 0xFC, mem := [(0x01FD, 0xC3), (0x01FE, 0x34), (0x01FF, 0x12)] }) =
      some (0xFF, 0x1234, 0xF3, 6) := by decide

/-- V58: `BRK`. -/
theorem test_V58_brk :
    stepView (fun t => (t.sp, t.pc, t.load 0x01FD, t.load 0x01FE, t.load 0x01FF, t.cycles))
      (start 0x30 [0x00] { blank with mem := [(0xFFFF, 0x90)] }) =
      some (0xFC, 0x9000, 0x30, 0x02, 0x02, 7) := by decide

/-- V59: `JMP $0200`. -/
theorem test_V59_jmpAbs :
    stepView (fun t => (t.pc, t.cycles))
      (start 0x34 [0x4C, 0x00, 0x02] blank) =
      some (0x0200, 3) := by decide

/-- V90: `JMP $1234`. -/
theorem test_V90_jmpAbs :
    stepView (fun t => (t.pc, t.cycles))
      (start 0x34 [0x4C, 0x34, 0x12] blank) =
      some (0x1234, 3) := by decide

/-- V91: `RTS`. -/
theorem test_V91_rts :
    stepView (fun t => (t.sp, t.pc, t.cycles))
      (start 0x34 [0x60] { blank with sp := 0xFD, mem := [(0x01FE, 0x02), (0x01FF, 0x80)] }) =
      some (0xFF, 0x8003, 6) := by decide

/-- V60: `BNE $0210`. -/
theorem test_V60_bne :
    stepView (fun t => (t.pc, t.cycles))
      (start 0x36 [0xD0, 0x0E] blank) =
      some (0x0202, 2) := by decide

/-- V61: `BNE $0210`. -/
theorem test_V61_bne :
    stepView (fun t => (t.pc, t.cycles))
      (start 0x34 [0xD0, 0x0E] blank) =
      some (0x0210, 3) := by decide

/-- V62: `BCC $0371`. -/
theorem test_V62_bcc :
    stepView (fun t => (t.pc, t.cycles))
      (start 0x34 [0x90, 0x7F] { blank with pc := 0x02F0 }) =
      some (0x0371, 4) := by decide

/-- V63: `BMI $01F2`. -/
theorem test_V63_bmi :
    stepView (fun t => (t.pc, t.cycles))
      (start 0xB4 [0x30, 0x80] { blank with pc := 0x0270 }) =
      some (0x01F2, 4) := by decide

/-- V64: `BEQ *+2`. -/
theorem test_V64_beq :
    stepView (fun t => (t.pc, t.cycles))
      (start 0x36 [0xF0, 0x00] blank) =
      some (0x0202, 3) := by decide

/-- V65: `BVS $0310`. -/
theorem test_V65_bvs :
    stepView (fun t => (t.pc, t.cycles))
      (start 0x74 [0x70, 0x10] { blank with pc := 0x02FE }) =
      some (0x0310, 3) := by decide

/-- V66: `BPL $0012`. -/
theorem test_V66_bpl :
    stepView (fun t => (t.pc, t.cycles))
      (start 0x34 [0x10, 0x20] { blank with pc := 0xFFF0 }) =
      some (0x0012, 4) := by decide

/-- V67: `SED`. -/
theorem test_V67_sed :
    stepView (fun t => (t.p.toByte, t.cycles))
      (start 0x34 [0xF8] blank) =
      some (0x3C, 2) := by decide

/-- V68: `CLV`. -/
theorem test_V68_clv :
    stepView (fun t => (t.p.toByte, t.cycles))
      (start 0x74 [0xB8] blank) =
      some (0x34, 2) := by decide

/-- V69: `NOP`. -/
theorem test_V69_nop :
    stepView (fun t => (t.p.toByte, t.cycles))
      (start 0x34 [0xEA] blank) =
      some (0x34, 2) := by decide

/-- V92: `BCS $0210`. -/
theorem test_V92_bcs :
    stepView (fun t => (t.pc, t.cycles))
      (start 0x34 [0xB0, 0x0E] blank) =
      some (0x0202, 2) := by decide

/-- V93: `BVC $01F0`. -/
theorem test_V93_bvc :
    stepView (fun t => (t.pc, t.cycles))
      (start 0x34 [0x50, 0xEE] blank) =
      some (0x01F0, 4) := by decide

/-- V94: `CLC`. -/
theorem test_V94_clc :
    stepView (fun t => (t.p.toByte, t.cycles))
      (start 0x35 [0x18] blank) =
      some (0x34, 2) := by decide

/-- V95: `SEC`. -/
theorem test_V95_sec :
    stepView (fun t => (t.p.toByte, t.cycles))
      (start 0x34 [0x38] blank) =
      some (0x35, 2) := by decide

/-- V96: `CLI`. -/
theorem test_V96_cli :
    stepView (fun t => (t.p.toByte, t.cycles))
      (start 0x34 [0x58] blank) =
      some (0x30, 2) := by decide

/-- V97: `SEI`. -/
theorem test_V97_sei :
    stepView (fun t => (t.p.toByte, t.cycles))
      (start 0x30 [0x78] blank) =
      some (0x34, 2) := by decide

/-- V98: `CLD`. -/
theorem test_V98_cld :
    stepView (fun t => (t.p.toByte, t.cycles))
      (start 0x3C [0xD8] blank) =
      some (0x34, 2) := by decide

/-- V100: `BRK with I = 0`. -/
theorem test_V100_brk :
    stepView (fun t => (t.sp, t.pc, t.load 0x01FD, t.load 0x01FE, t.load 0x01FF, t.cycles))
      (start 0xF1 [0x00] { blank with mem := [(0xFFFF, 0x90)] }) =
      some (0xFC, 0x9000, 0xF1, 0x02, 0x02, 7) := by decide

/-! ## Faults and interrupts: V70, V71, V72, V73, V74, V75, V53, V54 -/

/-- V70: opcode 0x02. -/
theorem test_V70_illegal :
    stepView (fun t => (t.pc, t.fault, t.cycles)) (start 0x34 [0x02] blank) =
      some (0x0201, some ⟨.invalidOpcode, 0x02, 0x0200⟩, 0) := by decide

/-- V71: opcode 0xFF. -/
theorem test_V71_illegal :
    stepView (fun t => (t.pc, t.fault, t.cycles)) (start 0x34 [0xFF] blank) =
      some (0x0201, some ⟨.invalidOpcode, 0xFF, 0x0200⟩, 0) := by decide

/-- The vectors' memory: IRQ at 0x1234, NMI at 0x3000. -/
def vectored : State := { blank with mem := [(0xFFFB, 0x30), (0xFFFE, 0x34), (0xFFFF, 0x12)] }

/-- V72: IRQ entry. -/
theorem test_V72_irq :
    stepView (fun t => (t.pc, t.sp, t.p.toByte)) (start 0x30 [0xEA] { vectored with irqPending := true }) =
      some (0x1234, 0xFC, 0x34) := by decide

/-- V72: the pushed bytes. -/
theorem test_V72_irq_stack :
    stepView (fun t => (t.load 0x01FF, t.load 0x01FE, t.load 0x01FD))
      (start 0x30 [0xEA] { vectored with irqPending := true }) = some (0x02, 0x00, 0x20) := by decide

/-- V73: an NMI goes before an IRQ, which stays pending. -/
theorem test_V73_nmi_first :
    stepView (fun t => (t.pc, t.irqPending, t.nmiPending))
      (start 0x30 [0xEA] { vectored with irqPending := true, nmiPending := true }) =
      some (0x3000, true, false) := by decide

/-- V74: a masked IRQ. -/
theorem test_V74_masked :
    stepView (fun t => (t.pc, t.irqPending, t.cycles)) (start 0x34 [0xEA] { vectored with irqPending := true }) =
      some (0x0201, true, 2) := by decide

/-- V75: an NMI with I = 1, the stack wrapping in its page. -/
theorem test_V75_nmi :
    stepView (fun t => (t.load 0x0100, t.sp, t.cycles))
      (start 0x34 [0xEA] { vectored with sp := 0x02, nmiPending := true }) = some (0x24, 0xFF, 7) := by decide

/-- V99: an IRQ that is pending when SEI would execute goes before it. -/
theorem test_V99_irq_before_sei :
    stepView (fun t => (t.pc, t.load 0x01FE)) (start 0x30 [0x78] { vectored with irqPending := true }) =
      some (0x1234, 0x00) := by decide

/-- The memory of V53 and V54. -/
def indirect : State := { blank with mem := [(0x1000, 0x12), (0x10FF, 0x34), (0x1100, 0x56)] }

/-- V53: JMP ($10FF) with JMP_IND_PAGE_WRAP true. -/
theorem test_V53_wrap : eaInd true 0x10FF indirect = 0x1234 := by decide

/-- V54: with JMP_IND_PAGE_WRAP false. -/
theorem test_V54_no_wrap : eaInd false 0x10FF indirect = 0x5634 := by decide

/-- 70_reset_and_hazards.md R290: Reset from a halted state. -/
theorem test_reset :
    (act .reset { vectored with fault := some ⟨.invalidOpcode, 0x02, 0x0200⟩, p := { Status.reset with n := true } }).p.toByte
      = 0x36 := by decide

/-! ## Memory keeps its canonical form -/

/-- Writing what an unlisted address reads as removes the entry. -/
theorem test_write_removes : Memory.write [(0x10, 0x01), (0x20, 0x02)] 0x10 0x00 = [(0x20, 0x02)] := by decide

/-- A write goes in at its place. -/
theorem test_write_inserts : Memory.write [(0x10, 0x01), (0x30, 0x02)] 0x20 0x05 =
    [(0x10, 0x01), (0x20, 0x05), (0x30, 0x02)] := by decide

/-! ## Witnesses: a state and operands that meet each obligation's hypotheses -/

/-- A state that executes NOP at the last address. -/
def atTop : State := start 0x36 [0xEA] { blank with pc := 0xFFFF }

theorem witness_DecodedBytesAreTheEncoding : decode [0x8D, 0xFF, 0x00] = .instr (.staAbs 0x00FF) [] := by decide

theorem witness_IllegalOpcodesAreTheListedOnes :
    decode [0x02] = .error (.invalidOpcode 0x02) ∧ decode [0xFF] = .error (.invalidOpcode 0xFF) := by decide

theorem witness_StepExecutesDecodedInstruction :
    atTop.executes ∧ decode atTop.fetchBytes = .instr .nop [] ∧ Instr.nop.wf = true :=
  ⟨⟨rfl, rfl⟩, by decide, by decide⟩

/-- Three bytes, the last two wrapped to addresses 0 and 1. -/
theorem witness_StepExecutesEncodedInstruction :
    let s := start 0x36 [0x8D, 0xFF, 0x00] { blank with pc := 0xFFFF }
    s.executes ∧ s.holds s.pc (encode (.staAbs 0x00FF)) :=
  ⟨⟨rfl, rfl⟩, by unfold State.holds; decide⟩

theorem witness_StepStopsOnlyWhenHalted :
    State.reset.fault = none ∧
      (State.raise .invalidOpcode State.reset).fault = some ⟨.invalidOpcode, 0x00, 0x0000⟩ := by decide

theorem witness_IllegalOpcodeRecordsFaultAndHalts :
    let s := start 0x36 [0x02] blank
    let t := start 0x36 [0xFF] { blank with pc := 0xFFFF }
    (s.executes ∧ s.load s.pc ∈ illegalOpcodes) ∧ t.executes ∧ t.load t.pc ∈ illegalOpcodes :=
  ⟨⟨⟨rfl, rfl⟩, by decide⟩, ⟨rfl, rfl⟩, by decide⟩

/-- With the stack pointer where the three pushes wrap in the stack page. -/
theorem witness_NmiEntryPushesAndVectors :
    let s : State := { vectored with sp := 0x01, nmiPending := true, irqPending := true }
    s.mem.wf = true ∧ s.running ∧ s.nmiPending = true := ⟨by decide, rfl, rfl⟩

theorem witness_IrqEntryPushesAndVectors :
    let s : State := { vectored with sp := 0x00, irqPending := true, p := { Status.reset with i := false } }
    s.mem.wf = true ∧ s.running ∧ s.nmiPending = false ∧ s.irqPending = true ∧ s.p.i = false :=
  ⟨by decide, rfl, rfl, rfl, rfl⟩

theorem witness_MaskedIrqStaysPending :
    let s : State := { vectored with irqPending := true }
    s.running ∧ s.nmiPending = false ∧ s.irqPending = true ∧ s.p.i = true := ⟨rfl, rfl, rfl, rfl⟩

theorem witness_MaskChangesActAtNextBoundary :
    let s : State := { vectored with irqPending := true }
    s.running ∧ s.nmiPending = false ∧ s.irqPending = true := ⟨rfl, rfl, rfl⟩

theorem witness_RtiResumesWhatWasInterrupted : vectored.mem.wf = true := by decide

theorem witness_StepKeepsInvariant : Inv State.reset ∧ ∃ t, step State.reset = .next t :=
  ⟨⟨by decide, by decide, by decide⟩, _, rfl⟩

/-- The invariant of a halted state too. -/
theorem witness_invariant_halted : Inv (State.raise .invalidOpcode (start 0x36 [0x02] blank)) where
  memWf := by decide
  breakSet := by decide
  faultTrue r h := by
    have : r = ⟨.invalidOpcode, 0x02, 0x0200⟩ := by
      have h' : (State.raise .invalidOpcode (start 0x36 [0x02] blank)).fault = some ⟨.invalidOpcode, 0x02, 0x0200⟩ := by
        decide
      rw [h'] at h
      exact (Option.some.inj h).symm
    subst this
    exact ⟨rfl, by rfl, by decide, by decide⟩

theorem witness_EveryRunMeetsInvariant :
    Memory.wf [] = true ∧ Memory.wf [(0x0000, 0x01), (0xFFFC, 0x80), (0xFFFF, 0xFF)] = true := by decide

/-- A branch not taken, and an instruction at the last address. -/
theorem witness_PcAdvancesByInstructionLength :
    (Instr.op (.bne 0x10) ∉ [Op.JMP, .JSR, .RTS, .RTI, .BRK] ∧ branchTaken (Instr.op (.bne 0x10)) State.reset.p = false) ∧
      Instr.nop.op ∉ [Op.JMP, .JSR, .RTS, .RTI, .BRK] ∧ branchTaken Instr.nop.op atTop.p = false := by decide

theorem witness_InstructionsLeavePendingAndBreak : ∃ t, exec .rti vectored = .next t := ⟨_, rfl⟩

theorem witness_DecimalFlagAffectsOnlyPushes :
    Instr.op (.adcImm 0x05) ∉ [Op.PHP, .BRK, .CLD, .SED, .PLP, .RTI] := by decide

/-- NOP meets every clause; a shift of memory is outside A's list and not in the accumulator mode. -/
theorem witness_RegistersHaveOnlyListedWriters :
    (∃ t, exec (.aslZp 0xFF) vectored = .next t) ∧
      Instr.op (.aslZp 0xFF) ∉ [Op.LDA, .ADC, .SBC, .AND, .ORA, .EOR, .TXA, .TYA, .PLA] ∧ Instr.mode (.aslZp 0xFF) ≠ .ACC ∧
      Instr.op (.aslZp 0xFF) ∉ [Op.LDX, .TAX, .TSX, .INX, .DEX] ∧
      Instr.op (.aslZp 0xFF) ∉ [Op.LDY, .TAY, .INY, .DEY] ∧
      Instr.op (.aslZp 0xFF) ∉ [Op.TXS, .PHA, .PHP, .PLA, .PLP, .JSR, .RTS, .RTI, .BRK] := ⟨⟨_, rfl⟩, by decide⟩

/-- TXS writes no flag. -/
theorem witness_FlagsHaveOnlyListedWriters :
    (∃ t, exec .txs vectored = .next t) ∧
      Instr.txs.op ∉ [Op.ADC, .SBC, .ASL, .LSR, .ROL, .ROR, .CMP, .CPX, .CPY, .CLC, .SEC, .PLP, .RTI] ∧
      Instr.txs.op ∉ [Op.ADC, .SBC, .AND, .ORA, .EOR, .BIT, .ASL, .LSR, .ROL, .ROR, .CMP, .CPX, .CPY, .INC, .DEC, .INX, .INY,
        .DEX, .DEY, .LDA, .LDX, .LDY, .TAX, .TAY, .TXA, .TYA, .TSX, .PLA, .PLP, .RTI] ∧
      Instr.txs.op ∉ [Op.SEI, .CLI, .PLP, .RTI, .BRK] ∧ Instr.txs.op ∉ [Op.SED, .CLD, .PLP, .RTI] ∧
      Instr.txs.op ∉ [Op.ADC, .SBC, .BIT, .CLV, .PLP, .RTI] := ⟨⟨_, rfl⟩, by decide⟩

/-- One instruction for each clause; the store's address is the last one, and the bytes beside the stack page. -/
theorem witness_MemoryChangesOnlyWhereStored :
    ((∃ t, exec .nop vectored = .next t) ∧ Instr.nop.op.writeClass = false ∧ Instr.nop.op.rmwClass = false ∧
      Instr.nop.op ∉ pushers) ∧
    ((∃ t, exec .aslAcc vectored = .next t) ∧ Instr.aslAcc.mode = .ACC) ∧
    ((∃ t, exec (.incAbs 0xFFFF) vectored = .next t) ∧ (Instr.op (.incAbs 0xFFFF)).rmwClass = true ∧
      (resolved (.incAbs 0xFFFF) vectored).1 = .mem 0xFFFF ∧ (0x0000 : Addr) ≠ 0xFFFF) ∧
    ((∃ t, exec .php vectored = .next t) ∧ Instr.php.op ∈ pushers ∧ hiByte 0x00FF ≠ 0x01 ∧ hiByte 0x0200 ≠ 0x01) :=
  ⟨⟨⟨_, rfl⟩, by decide⟩, ⟨⟨_, rfl⟩, by decide⟩, ⟨⟨_, rfl⟩, by decide⟩, ⟨_, rfl⟩, by decide⟩

/-- Every family has its forms: with the operands at their ends, a form of each list. The form lists cover the reads, the
stores and the read-modify-writes of the opcode table. -/
theorem witness_forms :
    let s := vectored; let b : Byte := 0xFF; let w : Addr := 0xFFFF
    ((adcForms s b w).length, (sbcForms s b w).length, (andForms s b w).length, (oraForms s b w).length) = (8, 8, 8, 8) ∧
    ((eorForms s b w).length, (bitForms s b w).length, (cmpForms s b w).length, (cpxForms s b w).length) = (8, 2, 8, 3) ∧
    ((cpyForms s b w).length, (ldaForms s b w).length, (ldxForms s b w).length, (ldyForms s b w).length) = (3, 8, 5, 5) ∧
    ((staForms s b w).length, (stxForms s b w).length, (styForms s b w).length) = (7, 3, 3) ∧
    ((aslForms s b w).length, (lsrForms s b w).length, (rolForms s b w).length, (rorForms s b w).length) = (4, 4, 4, 4) ∧
    ((incForms s b w).length, (decForms s b w).length) = (4, 4) := by decide

/-- The premise of the storing statements (StoresWriteOneByte, IncAndDecWriteMemory, ShiftsAndRotates,
PushesWriteAtStackPointer, PullsUndoPushes, JsrPushesReturnAddress, RtiResumesWhatWasInterrupted, BrkEntersIrqVector,
StoredByteIsFetchedNext), with bytes at both ends of memory. -/
theorem witness_memory_wf :
    State.reset.mem.wf = true ∧ ({ blank with mem := [(0x0000, 0x01), (0xFFFF, 0xFF)] } : State).mem.wf = true := by decide

theorem witness_AdcThenSbcRestoresA : State.reset.p.c = false := by decide

/-- Each branch has a status that takes it and one that does not: all flags set, and all clear. -/
theorem witness_BranchesTestOneFlag :
    let on : Status := ⟨true, true, true, true, true, true, true⟩
    let off : Status := ⟨false, false, false, false, false, false, false⟩
    [Op.BCS, .BEQ, .BMI, .BVS].all (fun o => branchTaken o on && !branchTaken o off) = true ∧
      [Op.BCC, .BNE, .BPL, .BVC].all (fun o => branchTaken o off && !branchTaken o on) = true := by decide

/-- Both sides of the page boundary. -/
theorem witness_PageIsCrossedWhenLowByteOverflows :
    crossed 0x20FF 0x01 = true ∧ crossed 0x20FE 0x01 = false ∧ crossed 0xFFFF 0xFF = true ∧ crossed 0x2000 0xFF = false := by
  decide

/-- One state for each mode, its instruction wrapping at the top of memory where it has operands. -/
theorem witness_ResolverComputesPlainAddresses :
    let at_ (bytes : List Byte) : State := start 0x36 bytes { blank with pc := 0xFFFF }
    (decode (at_ [0xA5, 0xFF]).fetchBytes = .instr (.ldaZp 0xFF) [] ∧ Instr.mode (.ldaZp 0xFF) = .ZP) ∧
    (decode (at_ [0xB5, 0xFF]).fetchBytes = .instr (.ldaZpx 0xFF) [] ∧ Instr.mode (.ldaZpx 0xFF) = .ZPX) ∧
    (decode (at_ [0x96, 0xFF]).fetchBytes = .instr (.stxZpy 0xFF) [] ∧ Instr.mode (.stxZpy 0xFF) = .ZPY) ∧
    (decode (at_ [0x8D, 0xFE, 0xFF]).fetchBytes = .instr (.staAbs 0xFFFE) [] ∧ Instr.mode (.staAbs 0xFFFE) = .ABS) ∧
    (decode (at_ [0xBD, 0xFE, 0xFF]).fetchBytes = .instr (.ldaAbx 0xFFFE) [] ∧ Instr.mode (.ldaAbx 0xFFFE) = .ABX) ∧
    (decode (at_ [0xBE, 0xFE, 0xFF]).fetchBytes = .instr (.ldxAby 0xFFFE) [] ∧ Instr.mode (.ldxAby 0xFFFE) = .ABY) ∧
    (decode (at_ [0xF0, 0x80]).fetchBytes = .instr (.beq 0x80) [] ∧ Instr.mode (.beq 0x80) = .REL) := by decide

theorem witness_ResolverFollowsPointers :
    let at_ (bytes : List Byte) : State := start 0x36 bytes { blank with pc := 0xFFFF }
    (decode (at_ [0xEA]).fetchBytes = .instr .nop [] ∧ Instr.nop.mode = .IMP) ∧
    (decode (at_ [0x0A]).fetchBytes = .instr .aslAcc [] ∧ Instr.aslAcc.mode = .ACC) ∧
    (decode (at_ [0xA9, 0xFF]).fetchBytes = .instr (.ldaImm 0xFF) [] ∧ Instr.mode (.ldaImm 0xFF) = .IMM) ∧
    (decode (at_ [0x6C, 0xFF, 0x10]).fetchBytes = .instr (.jmpInd 0x10FF) [] ∧ Instr.mode (.jmpInd 0x10FF) = .IND) ∧
    (decode (at_ [0xA1, 0xFF]).fetchBytes = .instr (.ldaIzx 0xFF) [] ∧ Instr.mode (.ldaIzx 0xFF) = .IZX) ∧
    (decode (at_ [0xB1, 0xFF]).fetchBytes = .instr (.ldaIzy 0xFF) [] ∧ Instr.mode (.ldaIzy 0xFF) = .IZY) := by decide

theorem witness_EntriesReadTheirVectors :
    (let s : State := { vectored with nmiPending := true }
     s.running ∧ s.nmiPending = true) ∧
    (let s : State := { vectored with irqPending := true, p := { Status.reset with i := false } }
     s.running ∧ s.nmiPending = false ∧ s.irqPending = true ∧ s.p.i = false) ∧
    (0xFFFA ≤ (0xFFFA : Addr).toNat ∧ 0xFFFA ≤ (0xFFFF : Addr).toNat) :=
  ⟨⟨rfl, rfl⟩, ⟨rfl, rfl, rfl, rfl⟩, by decide⟩

theorem witness_OnlyInvalidOpcodeIsRaised :
    let s := start 0x36 [0xFF] { blank with pc := 0xFFFF }
    s.running ∧ ∃ t, step s = .next t ∧ t.fault = some ⟨.invalidOpcode, 0xFF, 0xFFFF⟩ := ⟨rfl, _, rfl, by decide⟩

end Sys2Proof.Tests
end

section
/-! SUPPORT. What an instruction can do to the state, once for all 151 forms: every form runs one of a few effects, then sets
PC and adds its cycles. The rules about who writes what follow by cases on the effect. -/

namespace Sys2Proof.Machine

/-- The effect an operation, in a mode, has on the state `s` before PC and the counter are advanced. Addressing modes differ
only in the operand `m`, the value `r` or the address `addr`. -/
inductive Effect (s : State) : Op → Mode → State → Prop
  | adc {mode} (m : Byte) : Effect s .ADC mode (effAdc m s)
  | sbc {mode} (m : Byte) : Effect s .SBC mode (effSbc m s)
  | bit {mode} (m : Byte) : Effect s .BIT mode (effBit m s)
  | compare {op mode} (r m : Byte) (hop : op ∈ [Op.CMP, .CPX, .CPY]) : Effect s op mode (effCompare r m s)
  | shiftA {op} (f : Bool → Byte → Byte × Bool) (hop : op ∈ [Op.ASL, .LSR, .ROL, .ROR]) :
      Effect s op .ACC (effShiftA f s)
  | shift {op mode} (f : Bool → Byte → Byte × Bool) (addr : Addr) (hop : op ∈ [Op.ASL, .LSR, .ROL, .ROR]) :
      Effect s op mode (effShift f addr s)
  | stepMem {op mode} (r : Byte) (addr : Addr) (hop : op ∈ [Op.INC, .DEC]) : Effect s op mode (effStoreNZ r addr s)
  | writeA {op mode} (r : Byte) (hop : op ∈ [Op.LDA, .AND, .ORA, .EOR, .TXA, .TYA]) :
      Effect s op mode ((s.setA r).setNZ r)
  | writeX {op mode} (r : Byte) (hop : op ∈ [Op.LDX, .TAX, .TSX, .INX, .DEX]) : Effect s op mode ((s.setX r).setNZ r)
  | writeY {op mode} (r : Byte) (hop : op ∈ [Op.LDY, .TAY, .INY, .DEY]) : Effect s op mode ((s.setY r).setNZ r)
  | store {op mode} (addr : Addr) (v : Byte) (hop : op ∈ [Op.STA, .STX, .STY]) : Effect s op mode (s.store addr v)
  | txs {mode} : Effect s .TXS mode (s.setSp s.x)
  | push {op mode} (v : Byte) (hop : op ∈ [Op.PHA, .PHP]) : Effect s op mode (s.push v)
  | pla {mode} : Effect s .PLA mode ((s.pull.setA s.pulled).setNZ s.pulled)
  | plp {mode} : Effect s .PLP mode (s.pull.setP (s.p.writeP s.pulled))
  | setC {op mode} (b : Bool) (hop : op ∈ [Op.CLC, .SEC]) : Effect s op mode (s.setP { s.p with c := b })
  | setI {op mode} (b : Bool) (hop : op ∈ [Op.CLI, .SEI]) : Effect s op mode (s.setP { s.p with i := b })
  | setD {op mode} (b : Bool) (hop : op ∈ [Op.CLD, .SED]) : Effect s op mode (s.setP { s.p with d := b })
  | clv {mode} : Effect s .CLV mode (s.setP { s.p with v := false })
  | moveOn {op mode} (hop : op ∈ [Op.NOP, .JMP, .BCC, .BCS, .BEQ, .BNE, .BMI, .BPL, .BVC, .BVS]) : Effect s op mode s
  | jsr {mode} (ret : Addr) : Effect s .JSR mode (s.push16 ret)
  | rts {mode} : Effect s .RTS mode s.pull16
  | rti {mode} : Effect s .RTI mode s.returnFromInterrupt
  | brk {mode} (ret : Addr) : Effect s .BRK mode (s.enter ret true irqVector)

/-- The instruction answers a next state, which is one of its operation's effects with PC set and cycles added. -/
def Completes (i : Instr) (s : State) : Prop :=
  ∃ u pc cost, exec i s = .next ((u.setPc pc).addCycles cost) ∧ Effect s i.op i.mode u

variable {i : Instr} {s t : State}

theorem completes_of_setPc {op : Op} {mode : Mode} {u : State} {pc : Addr} {cost : Cycles}
    (h : exec i s = .next ((u.setPc pc).addCycles cost)) (hform : i.form = (op, mode)) (he : Effect s op mode u) :
    Completes i s :=
  ⟨u, pc, cost, h, by rwa [Instr.op, Instr.mode, hform]⟩

theorem completes_of_addCycles {op : Op} {mode : Mode} {u : State} {cost : Cycles}
    (h : exec i s = .next (u.addCycles cost)) (hform : i.form = (op, mode)) (he : Effect s op mode u) : Completes i s :=
  completes_of_setPc (pc := u.pc) h hform he

theorem completes_of_retire {op : Op} {mode : Mode} {u : State} {length : Addr} {cost : Cycles}
    (h : exec i s = .next (u.retire length cost)) (hform : i.form = (op, mode)) (he : Effect s op mode u) :
    Completes i s :=
  completes_of_setPc (pc := u.pc + length) h hform he

/-- A branch moves PC and the counter, taken or not. -/
theorem completes_of_branch {op : Op} {mode : Mode} {cond : Bool} {disp : Byte} (h : exec i s = branch cond disp s)
    (hform : i.form = (op, mode)) (he : Effect s op mode s) : Completes i s := by
  cases cond with
  | true => exact completes_of_setPc h hform he
  | false => exact completes_of_retire h hform he

/-- Every instruction completes in every state, with its operation's effect. -/
theorem exec_completes (i : Instr) (s : State) : Completes i s := by
  cases i
  case adcImm | adcZp | adcZpx | adcAbs | adcAbx | adcAby | adcIzx | adcIzy =>
    exact completes_of_retire rfl rfl (.adc _)
  case sbcImm | sbcZp | sbcZpx | sbcAbs | sbcAbx | sbcAby | sbcIzx | sbcIzy =>
    exact completes_of_retire rfl rfl (.sbc _)
  case bitZp | bitAbs => exact completes_of_retire rfl rfl (.bit _)
  case cmpImm | cmpZp | cmpZpx | cmpAbs | cmpAbx | cmpAby | cmpIzx | cmpIzy | cpxImm | cpxZp | cpxAbs | cpyImm |
      cpyZp | cpyAbs =>
    exact completes_of_retire rfl rfl (.compare _ _ (by decide))
  case aslAcc | lsrAcc | rolAcc | rorAcc => exact completes_of_retire rfl rfl (.shiftA _ (by decide))
  case aslZp | aslZpx | aslAbs | aslAbx | lsrZp | lsrZpx | lsrAbs | lsrAbx | rolZp | rolZpx | rolAbs | rolAbx |
      rorZp | rorZpx | rorAbs | rorAbx =>
    exact completes_of_retire rfl rfl (.shift _ _ (by decide))
  case incZp | incZpx | incAbs | incAbx | decZp | decZpx | decAbs | decAbx =>
    exact completes_of_retire rfl rfl (.stepMem _ _ (by decide))
  case ldaImm | ldaZp | ldaZpx | ldaAbs | ldaAbx | ldaAby | ldaIzx | ldaIzy | andImm | andZp | andZpx | andAbs |
      andAbx | andAby | andIzx | andIzy | oraImm | oraZp | oraZpx | oraAbs | oraAbx | oraAby | oraIzx | oraIzy |
      eorImm | eorZp | eorZpx | eorAbs | eorAbx | eorAby | eorIzx | eorIzy | txa | tya =>
    exact completes_of_retire rfl rfl (.writeA _ (by decide))
  case ldxImm | ldxZp | ldxZpy | ldxAbs | ldxAby | tax | tsx | inx | dex =>
    exact completes_of_retire rfl rfl (.writeX _ (by decide))
  case ldyImm | ldyZp | ldyZpx | ldyAbs | ldyAbx | tay | iny | dey =>
    exact completes_of_retire rfl rfl (.writeY _ (by decide))
  case staZp | staZpx | staAbs | staAbx | staAby | staIzx | staIzy | stxZp | stxZpy | stxAbs | styZp | styZpx |
      styAbs =>
    exact completes_of_retire rfl rfl (.store _ _ (by decide))
  case txs => exact completes_of_retire rfl rfl .txs
  case pha | php => exact completes_of_retire rfl rfl (.push _ (by decide))
  case pla => exact completes_of_retire rfl rfl .pla
  case plp => exact completes_of_retire rfl rfl .plp
  case clc | sec => exact completes_of_retire rfl rfl (.setC _ (by decide))
  case cli | sei => exact completes_of_retire rfl rfl (.setI _ (by decide))
  case cld | sed => exact completes_of_retire rfl rfl (.setD _ (by decide))
  case clv => exact completes_of_retire rfl rfl .clv
  case nop => exact completes_of_retire rfl rfl (.moveOn (by decide))
  case bcc | bcs | beq | bne | bmi | bpl | bvc | bvs => exact completes_of_branch rfl rfl (.moveOn (by decide))
  case jmpAbs | jmpInd => exact completes_of_setPc rfl rfl (.moveOn (by decide))
  case jsr => exact completes_of_setPc rfl rfl (.jsr _)
  case rts => exact completes_of_setPc rfl rfl .rts
  case rti => exact completes_of_addCycles rfl rfl .rti
  case brk => exact completes_of_addCycles rfl rfl (.brk _)

/-- What an instruction can have done, given the state it left. -/
theorem exec_cases (h : exec i s = .next t) :
    ∃ u pc cost, t = (u.setPc pc).addCycles cost ∧ Effect s i.op i.mode u := by
  obtain ⟨u, pc, cost, hu, he⟩ := exec_completes i s
  cases hu.symm.trans h
  exact ⟨u, pc, cost, rfl, he⟩

/-! ## What every effect leaves -/

namespace Effect

variable {op : Op} {mode : Mode} {u : State}

/-- No effect writes a pending flag, the fault record or B. -/
theorem pending_fault_break_eq (h : Effect s op mode u) :
    u.irqPending = s.irqPending ∧ u.nmiPending = s.nmiPending ∧ u.fault = s.fault ∧ u.p.b = s.p.b := by
  cases h with
  | jsr | rti | brk => simp
  | _ => exact ⟨rfl, rfl, rfl, rfl⟩

theorem wf_mem (h : Effect s op mode u) (hs : s.mem.wf = true) : u.mem.wf = true := by
  cases h with
  | shift _ addr | stepMem _ addr | store addr => exact State.wf_store hs addr _
  | push v => exact State.wf_push hs v
  | jsr ret => exact State.wf_push16 hs ret
  | brk ret => exact State.wf_enter hs ret true irqVector
  | _ => exact hs

/-! ## Which operations write a register (10_state.md R22 to R25)

In each of these, the effects that write the field belong to the operations that `hop` excludes. -/

theorem a_eq (h : Effect s op mode u) (hop : op ∉ [Op.LDA, .ADC, .SBC, .AND, .ORA, .EOR, .TXA, .TYA, .PLA])
    (hmode : mode ≠ .ACC) : u.a = s.a := by
  cases h with
  | adc | sbc | writeA | pla => simp_all
  | shiftA => exact absurd rfl hmode
  | jsr | rti | brk => simp
  | _ => rfl

theorem x_eq (h : Effect s op mode u) (hop : op ∉ [Op.LDX, .TAX, .TSX, .INX, .DEX]) : u.x = s.x := by
  cases h with
  | writeX _ hw => exact absurd hw hop
  | jsr | rti | brk => simp
  | _ => rfl

theorem y_eq (h : Effect s op mode u) (hop : op ∉ [Op.LDY, .TAY, .INY, .DEY]) : u.y = s.y := by
  cases h with
  | writeY _ hw => exact absurd hw hop
  | jsr | rti | brk => simp
  | _ => rfl

theorem sp_eq (h : Effect s op mode u) (hop : op ∉ [Op.TXS, .PHA, .PHP, .PLA, .PLP, .JSR, .RTS, .RTI, .BRK]) :
    u.sp = s.sp := by
  cases h with
  | txs | push | pla | plp | jsr | rts | rti | brk => simp_all
  | _ => rfl

/-! ## Which operations write a flag (10_state.md R29 to R35) -/

theorem c_eq (h : Effect s op mode u)
    (hop : op ∉ [Op.ADC, .SBC, .ASL, .LSR, .ROL, .ROR, .CMP, .CPX, .CPY, .CLC, .SEC, .PLP, .RTI]) : u.p.c = s.p.c := by
  cases h with
  | adc | sbc | compare | shiftA | shift | setC | plp | rti => simp_all
  | jsr | brk => simp
  | _ => rfl

theorem zn_eq (h : Effect s op mode u)
    (hop : op ∉ [Op.ADC, .SBC, .AND, .ORA, .EOR, .BIT, .ASL, .LSR, .ROL, .ROR, .CMP, .CPX, .CPY, .INC, .DEC, .INX, .INY,
      .DEX, .DEY, .LDA, .LDX, .LDY, .TAX, .TAY, .TXA, .TYA, .TSX, .PLA, .PLP, .RTI]) :
    u.p.z = s.p.z ∧ u.p.n = s.p.n := by
  cases h with
  | adc | sbc | bit | compare | shiftA | shift | stepMem | writeA | writeX | writeY | pla | plp | rti => simp_all
  | jsr | brk => simp
  | _ => exact ⟨rfl, rfl⟩

theorem i_eq (h : Effect s op mode u) (hop : op ∉ [Op.SEI, .CLI, .PLP, .RTI, .BRK]) : u.p.i = s.p.i := by
  cases h with
  | setI | plp | rti | brk => simp_all
  | jsr => simp
  | _ => rfl

theorem d_eq (h : Effect s op mode u) (hop : op ∉ [Op.SED, .CLD, .PLP, .RTI]) : u.p.d = s.p.d := by
  cases h with
  | setD | plp | rti => simp_all
  | jsr | brk => simp
  | _ => rfl

theorem v_eq (h : Effect s op mode u) (hop : op ∉ [Op.ADC, .SBC, .BIT, .CLV, .PLP, .RTI]) : u.p.v = s.p.v := by
  cases h with
  | adc | sbc | bit | clv | plp | rti => simp_all
  | jsr | brk => simp
  | _ => rfl

end Effect

end Sys2Proof.Machine
end

section
/-! SUPPORT. The counter and the pending flags are carried along, not read. -/

namespace Sys2Proof.Machine

/-- The same state with another counter and other pending flags. -/
def State.withClock (s : State) (n : Cycles) (q m : Bool) : State :=
  { s with cycles := n, irqPending := q, nmiPending := m }

/-- `f` completes and, with another counter and other pending flags, does the same, at the same cost. -/
def IgnoresClock (f : State → Result) : Prop :=
  ∀ (s : State) (n : Cycles) (q m : Bool), ∃ t cost, f s = .next t ∧ t.cycles = s.cycles + cost ∧
    f (s.withClock n q m) = .next (t.withClock (n + cost) q m)

theorem branch_ignoresClock (cond : Status → Bool) (disp : Byte) : IgnoresClock (fun s => branch (cond s.p) disp s) := by
  intro s n q m
  have hp : (s.withClock n q m).p = s.p := rfl
  dsimp only
  rw [hp]
  cases cond s.p <;> exact ⟨_, _, rfl, rfl, rfl⟩

/-- BRK's pushes and its vector are those of the same registers and memory. -/
theorem State.enter_withClock (s : State) (n : Cycles) (q m : Bool) (ret : Addr) (b : Bool) (vector : Addr) :
    (s.withClock n q m).enter ret b vector = (s.enter ret b vector).withClock n q m := by
  have hpush16 : (s.withClock n q m).push16 ret = (s.push16 ret).withClock n q m := rfl
  have hpush (u : State) (v : Byte) : (u.withClock n q m).push v = (u.push v).withClock n q m := rfl
  simp only [State.enter, hpush16, hpush]
  rfl

theorem brk_ignoresClock : IgnoresClock (exec .brk) := by
  intro s n q m
  refine ⟨_, 7, exec_brk s, by simp, ?_⟩
  rw [exec_brk, State.enter_withClock]
  rfl

/-- BRK and the branches have lemmas of their own; for every other instruction the two next states agree by computation. -/
theorem exec_ignoresClock (i : Instr) : IgnoresClock (exec i) := by
  cases i
  case bcc disp => exact branch_ignoresClock (fun p => !p.c) disp
  case bcs disp => exact branch_ignoresClock (fun p => p.c) disp
  case beq disp => exact branch_ignoresClock (fun p => p.z) disp
  case bne disp => exact branch_ignoresClock (fun p => !p.z) disp
  case bmi disp => exact branch_ignoresClock (fun p => p.n) disp
  case bpl disp => exact branch_ignoresClock (fun p => !p.n) disp
  case bvc disp => exact branch_ignoresClock (fun p => !p.v) disp
  case bvs disp => exact branch_ignoresClock (fun p => p.v) disp
  case brk => exact brk_ignoresClock
  all_goals exact fun _ _ _ _ => ⟨_, _, rfl, rfl, rfl⟩

end Sys2Proof.Machine
end

section
/-! SUPPORT. The statements about the state: what a step keeps, who writes a field, Reset, requests and the byte of P. -/

namespace Sys2Proof.Machine

/-! ## The invariant -/

variable {s t : State}

theorem Inv.of_running (hmem : s.mem.wf = true) (hb : s.p.b = true) (hf : s.fault = none) : Inv s :=
  ⟨hmem, hb, fun r hr => by rw [hf] at hr; cases hr⟩

theorem enterInterrupt_keeps_inv (h : Inv s) (hf : s.fault = none) (vector : Addr) : Inv (s.enterInterrupt vector) :=
  .of_running (State.wf_enter h.memWf s.pc false vector) (by simpa [State.enterInterrupt] using h.breakSet)
    (by simpa [State.enterInterrupt] using hf)

theorem exec_keeps_inv {i : Instr} (h : Inv s) (hf : s.fault = none) (ht : exec i s = .next t) : Inv t := by
  obtain ⟨u, pc, cost, rfl, he⟩ := exec_cases ht
  obtain ⟨-, -, hfault, hb⟩ := he.pending_fault_break_eq
  exact .of_running (he.wf_mem h.memWf) (hb.trans h.breakSet) (hfault.trans hf)

theorem raise_keeps_inv (h : Inv s) (hrow : rowOf (s.load s.pc) = none) : Inv (s.raise .invalidOpcode) where
  memWf := h.memWf
  breakSet := h.breakSet
  faultTrue := by
    rintro r ⟨⟩
    exact ⟨rfl, hrow, rfl, rfl⟩

/-- A fetch that does not decode found a byte with no decode-table entry at PC. -/
theorem State.rowOf_of_decode_error {e : DecodeError} (h : decode s.fetchBytes = .error e) :
    rowOf (s.load s.pc) = none := by
  obtain ⟨i, hi⟩ | ⟨hrow, -⟩ := s.decode_fetchBytes
  · cases hi.symm.trans h
  · exact hrow

theorem step_keeps_inv (h : Inv s) (ht : step s = .next t) : Inv t := by
  obtain ⟨hf, ⟨-, rfl⟩ | ⟨-, -, -, rfl⟩ | ⟨-, i, rest, -, hexec⟩ | ⟨-, e, hdec, rfl⟩⟩ := step_cases ht
  · exact enterInterrupt_keeps_inv (s := { s with nmiPending := false }) ⟨h.memWf, h.breakSet, h.faultTrue⟩ hf nmiVector
  · exact enterInterrupt_keeps_inv (s := { s with irqPending := false }) ⟨h.memWf, h.breakSet, h.faultTrue⟩ hf irqVector
  · exact exec_keeps_inv h hf hexec
  · exact raise_keeps_inv h (State.rowOf_of_decode_error hdec)

theorem inv_resetFrom (cycles : Cycles) (q m : Bool) {mem : Memory} (h : mem.wf = true) :
    Inv (resetFrom cycles q m mem) :=
  .of_running h rfl rfl

theorem act_keeps_inv (h : Inv s) (x : Action) : Inv (act x s) := by
  obtain ⟨-, hx⟩ | ⟨m, -, hx⟩ | ⟨-, hx⟩ | ⟨-, hx⟩ := act_cases x s
  · exact hx ▸ inv_resetFrom _ _ _ h.memWf
  · rw [hx]
    cases m <;> exact ⟨h.memWf, h.breakSet, h.faultTrue⟩
  · exact step_keeps_inv h hx
  · exact hx.symm ▸ h

theorem runActions_keeps_inv (h : Inv s) (xs : List Action) : Inv (runActions xs s) := by
  induction xs generalizing s with
  | nil => exact h
  | cons x xs ih => exact ih (act_keeps_inv h x)

/-- Settles O19: by the cases of a step. -/
theorem stepKeepsInvariant : Obligations.StepKeepsInvariant :=
  fun _ _ h ht => step_keeps_inv h ht

/-- Settles O20: the reset state is running, with empty memory and B set. -/
theorem resetMeetsInvariant : Obligations.ResetMeetsInvariant :=
  .of_running rfl rfl rfl

/-- Settles O21: the first Reset gives the invariant, and every action keeps it. -/
theorem everyRunMeetsInvariant : Obligations.EveryRunMeetsInvariant :=
  fun _ actions h => runActions_keeps_inv (inv_resetFrom 0 false false h) actions

/-! ## The halt -/

theorem State.executeOne_next (s : State) : ∃ t, s.executeOne = .next t := by
  obtain ⟨i, hi⟩ | ⟨-, he⟩ := s.decode_fetchBytes
  · obtain ⟨u, pc, cost, hexec, -⟩ := exec_completes i s
    exact ⟨_, (State.executeOne_instr hi).trans hexec⟩
  · exact ⟨_, State.executeOne_error he⟩

/-- A running block services an interrupt or executes one instruction (30_encoding.md R80). -/
theorem step_next_of_running (h : s.fault = none) : ∃ t, step s = .next t := by
  simp only [step, h]
  split
  · exact ⟨_, rfl⟩
  · split
    · exact ⟨_, rfl⟩
    · exact s.executeOne_next

theorem step_of_fault {r : FaultRecord} (h : s.fault = some r) : step s = .fault (.halted r) := by
  simp [step, h]

/-- Settles O8: the halt is the only branch of a step that answers no next state. -/
theorem stepStopsOnlyWhenHalted : Obligations.StepStopsOnlyWhenHalted := by
  refine fun s => ⟨step_next_of_running, fun r hr => ⟨step_of_fault hr, ?_⟩⟩
  simp only [act, step_of_fault hr]

/-! ## Who writes a field -/

/-- Settles O25: no effect writes them. -/
theorem instructionsLeavePendingAndBreak : Obligations.InstructionsLeavePendingAndBreak := by
  intro i s t h
  obtain ⟨u, pc, cost, rfl, he⟩ := exec_cases h
  obtain ⟨hirq, hnmi, -, hb⟩ := he.pending_fault_break_eq
  exact ⟨hirq, hnmi, hb⟩

/-- Settles O28: by the writers of each effect. -/
theorem registersHaveOnlyListedWriters : Obligations.RegistersHaveOnlyListedWriters := by
  intro i s t h
  obtain ⟨u, pc, cost, rfl, he⟩ := exec_cases h
  exact ⟨he.a_eq, he.x_eq, he.y_eq, he.sp_eq⟩

/-- Settles O29: by the writers of each effect. -/
theorem flagsHaveOnlyListedWriters : Obligations.FlagsHaveOnlyListedWriters := by
  intro i s t h
  obtain ⟨u, pc, cost, rfl, he⟩ := exec_cases h
  exact ⟨he.c_eq, he.zn_eq, he.i_eq, he.d_eq, he.v_eq⟩

/-- Settles O26: the cycles added are the difference of the two counters. -/
theorem instructionsDoNotReadCounterOrPending : Obligations.InstructionsDoNotReadCounterOrPending := by
  intro i s n q m
  obtain ⟨t, cost, ht, hcycles, hclock⟩ := exec_ignoresClock i s n q m
  have hcost : t.cycles - s.cycles = cost := by rw [hcycles, add_sub_cancel_left]
  exact ⟨t, ht, by rw [hcost]; exact hclock⟩

/-! ## Requests, Reset, the byte of P -/

/-- Settles O14, for each kind of request. -/
theorem triggerInterruptLatchesRequest : Obligations.TriggerInterruptLatchesRequest := by
  intro s m
  cases m <;> simp [act, State.triggerInterrupt]

/-- Settles O18: the model's reset state is the first Reset's, from the all-zero memory. -/
theorem resetStateHoldsListedValues : Obligations.ResetStateHoldsListedValues :=
  ⟨State.afterFirstReset_nil.symm, rfl, rfl, rfl, rfl, by decide, rfl, rfl, rfl, rfl, rfl, rfl⟩

/-- Settles O60: the byte is the big-endian value of its eight bits. -/
theorem statusByteLayout : Obligations.StatusByteLayout := by
  intro p
  simp only [Status.toByte, Status.pushed, BitVec.ofBoolListBE, BitVec.toNat_cons', List.length_cons, List.length_nil,
    Nat.shiftLeft_eq, Bool.toNat_true, BitVec.toNat_ofNat]
  omega

end Sys2Proof.Machine
end

section
/-! SUPPORT. Where memory changes: in the stack page by a push, at its effective address by a store, nowhere else. -/

namespace Sys2Proof.Machine

open Sys2Proof.Claims

variable {i : Instr} {s t u : State}

/-! ## Pushes and the stack page -/

theorem State.load_push16_page (s : State) {addr : Addr} (h : hiByte addr ≠ 0x01) (w : Addr) :
    (s.push16 w).load addr = s.load addr :=
  State.load_push16_other s (ne_stackAddr h _) (ne_stackAddr h _) w

theorem State.load_enter_page (s : State) {addr : Addr} (h : hiByte addr ≠ 0x01) (ret : Addr) (b : Bool)
    (vector : Addr) : (s.enter ret b vector).load addr = s.load addr :=
  State.load_enter_other s (ne_stackAddr h _) (ne_stackAddr h _) (ne_stackAddr h _) ret b vector

/-- The vector table lies outside the stack page (20_memory.md R60). -/
theorem hiByte_ne_of_vectorTable {addr : Addr} (h : 0xFFFA ≤ addr.toNat) : hiByte addr ≠ 0x01 := by
  intro hpage
  have hdiv := hiByte_toNat addr
  rw [hpage, show (0x01 : Byte).toNat = 1 from rfl] at hdiv
  omega

/-! ## What an effect does to memory -/

theorem notMem_stores_of_writeClass {op : Op} (h : op.writeClass = false) : op ∉ [Op.STA, .STX, .STY] := by
  intro hop
  exact absurd h ((by decide : ∀ o ∈ [Op.STA, .STX, .STY], o.writeClass ≠ false) op hop)

theorem notMem_modifiers_of_rmwClass {op : Op} (h : op.rmwClass = false) :
    op ∉ [Op.ASL, .LSR, .ROL, .ROR] ∧ op ∉ [Op.INC, .DEC] := by
  constructor <;> intro hop
  · exact absurd h ((by decide : ∀ o ∈ [Op.ASL, .LSR, .ROL, .ROR], o.rmwClass ≠ false) op hop)
  · exact absurd h ((by decide : ∀ o ∈ [Op.INC, .DEC], o.rmwClass ≠ false) op hop)

/-- A pushing operation neither stores to nor modifies an effective address. -/
theorem class_of_pusher {op : Op} (h : op ∈ pushers) : op.writeClass = false ∧ op.rmwClass = false :=
  (by decide : ∀ o ∈ pushers, o.writeClass = false ∧ o.rmwClass = false) op h

/-- The effects that write memory are those of the storing, modifying and pushing operations (30_encoding.md R105). -/
theorem Effect.mem_eq {op : Op} {mode : Mode} (h : Effect s op mode u) (hwrite : op.writeClass = false)
    (hrmw : op.rmwClass = false) (hpush : op ∉ pushers) : u.mem = s.mem := by
  cases h with
  | store _ _ hop => exact absurd hop (notMem_stores_of_writeClass hwrite)
  | shift _ _ hop => exact absurd hop (notMem_modifiers_of_rmwClass hrmw).1
  | stepMem _ _ hop => exact absurd hop (notMem_modifiers_of_rmwClass hrmw).2
  | push | jsr | brk => simp_all [pushers]
  | rti => simp
  | _ => rfl

/-- A push of a byte, of a return address or of an entry stays in the stack page (20_memory.md R58). -/
theorem Effect.load_page {op : Op} {mode : Mode} (h : Effect s op mode u) (hpush : op ∈ pushers) {addr : Addr}
    (hpage : hiByte addr ≠ 0x01) : u.load addr = s.load addr := by
  obtain ⟨hwrite, hrmw⟩ := class_of_pusher hpush
  cases h with
  | push v => exact s.load_push_page hpage v
  | jsr ret => exact s.load_push16_page hpage ret
  | brk ret => exact s.load_enter_page hpage ret true irqVector
  | store _ _ hop => exact absurd hop (notMem_stores_of_writeClass hwrite)
  | shift _ _ hop => exact absurd hop (notMem_modifiers_of_rmwClass hrmw).1
  | stepMem _ _ hop => exact absurd hop (notMem_modifiers_of_rmwClass hrmw).2
  | _ => rfl

/-! ## The effective address of a store (30_encoding.md R105) -/

/-- In the accumulator mode the instruction shifts A, and stores nothing (92_eei_decisions.md D16). -/
theorem mem_eq_of_mode_acc (h : exec i s = .next t) (hacc : i.mode = .ACC) : t.mem = s.mem := by
  cases i
  case aslAcc | lsrAcc | rolAcc | rorAcc =>
    cases h
    rfl
  all_goals cases hacc

/-- The instruction's next state has, in memory, one byte stored at its effective address. -/
def StoresAtResolved (i : Instr) (s : State) : Prop :=
  ∃ t addr v, exec i s = .next t ∧ (resolved i s).1 = .mem addr ∧ t.mem = (s.store addr v).mem

/-- A store or a read-modify-write, but of A, writes at the address `Resolve` gives before it. -/
theorem storesAtResolved (s : State) (hop : i.op.writeClass = true ∨ i.op.rmwClass = true) (hacc : i.mode ≠ .ACC) :
    StoresAtResolved i s := by
  cases i
  case staZp | staZpx | staIzx | staIzy | stxZp | stxZpy | styZp | styZpx | aslZp | aslZpx | lsrZp | lsrZpx | rolZp |
      rolZpx | rorZp | rorZpx | incZp | incZpx | decZp | decZpx =>
    exact ⟨_, _, _, rfl, rfl, rfl⟩
  case staAbs addr | stxAbs addr | styAbs addr | aslAbs addr | lsrAbs addr | rolAbs addr | rorAbs addr | incAbs addr |
      decAbs addr =>
    exact ⟨_, addr, _, rfl, congrArg EffAddr.mem (wordOf_hiByte_loByte addr), rfl⟩
  case staAbx base | aslAbx base | lsrAbx base | rolAbx base | rorAbx base | incAbx base | decAbx base =>
    exact ⟨_, eaAbx base s, _, rfl, congrArg (fun w => EffAddr.mem (eaAbx w s)) (wordOf_hiByte_loByte base), rfl⟩
  case staAby base =>
    exact ⟨_, eaAby base s, _, rfl, congrArg (fun w => EffAddr.mem (eaAby w s)) (wordOf_hiByte_loByte base), rfl⟩
  case aslAcc | lsrAcc | rolAcc | rorAcc => exact absurd rfl hacc
  all_goals simp [Instr.op, Instr.form, Op.writeClass, Op.rmwClass] at hop

/-- Every byte but the one at the effective address is as before. -/
theorem load_eq_of_stores {ea addr : Addr} (h : exec i s = .next t)
    (hop : i.op.writeClass = true ∨ i.op.rmwClass = true) (hea : (resolved i s).1 = .mem ea) (hne : addr ≠ ea) :
    t.load addr = s.load addr := by
  have hacc : i.mode ≠ .ACC := fun hm => by simp [resolved, resolve, hm] at hea
  obtain ⟨t', ea', v, ht, hres, hmem⟩ := storesAtResolved s hop hacc
  cases ht.symm.trans h
  cases hres.symm.trans hea
  calc t.load addr = (s.store ea v).load addr := congrArg (Memory.read · addr.toNat) hmem
    _ = s.load addr := State.load_store_other s hne v

/-- Settles O30: by the effects on memory, and for a store by its effective address. -/
theorem memoryChangesOnlyWhereStored : Obligations.MemoryChangesOnlyWhereStored := by
  intro i s t h
  obtain ⟨u, pc, cost, rfl, he⟩ := exec_cases h
  exact ⟨he.mem_eq, mem_eq_of_mode_acc h, fun _ hop hea _ hne => load_eq_of_stores h hop hea hne,
    fun hpush _ hpage => he.load_page hpush hpage⟩

end Sys2Proof.Machine
end

section
/-! SUPPORT. What a step reads from memory: the vectors, and the byte a store left at the next instruction. -/

namespace Sys2Proof.Machine

variable {s : State}

/-! ## The vectors (20_memory.md R60) -/

theorem step_of_nmi (hrun : s.running) (hnmi : s.nmiPending = true) : step s = .next s.serviceNmi := by
  simp [step, show s.fault = none from hrun, hnmi]

theorem step_of_irq (hrun : s.running) (hnmi : s.nmiPending = false) (hirq : s.irqPending = true) (hi : s.p.i = false) :
    step s = .next s.serviceIrq := by
  simp [step, show s.fault = none from hrun, hnmi, hirq, hi]

theorem State.serviceNmi_pc (s : State) : s.serviceNmi.pc = s.load16 nmiVector :=
  State.enter_pc { s with nmiPending := false } (by decide) (by decide) s.pc false

theorem State.enter_irqVector_pc (s : State) (ret : Addr) (b : Bool) :
    (s.enter ret b irqVector).pc = s.load16 irqVector :=
  State.enter_pc s (by decide) (by decide) ret b

theorem State.serviceIrq_pc (s : State) : s.serviceIrq.pc = s.load16 irqVector :=
  State.enter_irqVector_pc { s with irqPending := false } s.pc false

theorem State.load_serviceNmi_page (s : State) {addr : Addr} (h : hiByte addr ≠ 0x01) :
    s.serviceNmi.load addr = s.load addr :=
  State.load_serviceNmi_other s (ne_stackAddr h _) (ne_stackAddr h _) (ne_stackAddr h _)

theorem State.load_serviceIrq_page (s : State) {addr : Addr} (h : hiByte addr ≠ 0x01) :
    s.serviceIrq.load addr = s.load addr :=
  State.load_serviceIrq_other s (ne_stackAddr h _) (ne_stackAddr h _) (ne_stackAddr h _)

/-- Settles O16: the pushes of an entry stay in the stack page, which holds no vector, and Reset writes no memory. -/
theorem entriesReadTheirVectors : Obligations.EntriesReadTheirVectors := by
  refine fun s => ⟨fun hrun hnmi => ⟨_, step_of_nmi hrun hnmi, s.serviceNmi_pc, fun addr htable => ?_⟩, rfl,
    fun _ _ => rfl,
    fun hrun hnmi hirq hi => ⟨_, step_of_irq hrun hnmi hirq hi, s.serviceIrq_pc, fun addr htable => ?_⟩,
    ⟨_, exec_brk s, (State.addCycles_pc _ 7).trans (s.enter_irqVector_pc (s.pc + 2) true), fun addr htable => ?_⟩⟩
  · exact s.load_serviceNmi_page (hiByte_ne_of_vectorTable htable)
  · exact s.load_serviceIrq_page (hiByte_ne_of_vectorTable htable)
  · rw [State.load_addCycles]
    exact s.load_enter_page (hiByte_ne_of_vectorTable htable) (s.pc + 2) true irqVector

/-! ## The fetch after a store (20_memory.md R65) -/

theorem State.fetchBytes_head? (s : State) : s.fetchBytes.head? = some (s.load s.pc) := by
  obtain ⟨operands, hf, -⟩ := s.fetchBytes_cons
  rw [hf, List.head?_cons]

/-- Settles O59: the next fetch is at PC + 3, where A was stored. -/
theorem storedByteIsFetchedNext : Obligations.StoredByteIsFetchedNext := by
  intro s hwf
  refine ⟨_, exec_staAbs s (s.pc + 3), ?_⟩
  rw [State.fetchBytes_head?]
  exact congrArg some (State.load_store_same hwf (s.pc + 3) s.a)

end Sys2Proof.Machine
end

section
/-! SUPPORT. The decoder against the encoder: an instruction has one row of the decode table, which makes it from the
operand bytes its encoding writes. -/

namespace Sys2Proof

open Sys2Proof.Claims

variable {i : Instr}

/-! ## The three formats (30_encoding.md R85) -/

/-- A format makes this instruction from exactly these operand bytes. -/
inductive Shape.Makes : Shape → List Byte → Instr → Prop
  | alone (i : Instr) : Makes (.alone i) [] i
  | byte (make : Byte → Instr) (b : Byte) : Makes (.byte make) [b] (make b)
  | word (make : Addr → Instr) (w : Addr) : Makes (.word make) [loByte w, hiByte w] (make w)

theorem Shape.Makes.length_eq {sh : Shape} {operands : List Byte} (h : sh.Makes operands i) :
    operands.length = sh.operandBytes := by cases h <;> rfl

/-- A format that takes its operand bytes leaves the bytes after them. -/
theorem Shape.Makes.build_append {sh : Shape} {operands : List Byte} (h : sh.Makes operands i) (rest : List Byte) :
    sh.build (operands ++ rest) = .instr i rest := by
  cases h with
  | alone | byte => rfl
  | word make w => exact congrArg (fun v => Decoded.instr (make v) rest) (wordOf_hiByte_loByte w)

theorem Shape.makes_of_build {sh : Shape} {bytes rest : List Byte} (h : sh.build bytes = .instr i rest) :
    ∃ operands, sh.Makes operands i ∧ bytes = operands ++ rest := by
  match sh, bytes, h with
  | .alone i, _, rfl => exact ⟨[], .alone i, rfl⟩
  | .byte make, b :: _, rfl => exact ⟨[b], .byte make b, rfl⟩
  | .word make, lo :: hi :: _, rfl =>
    have hw := Makes.word make (wordOf hi lo)
    rw [loByte_wordOf, hiByte_wordOf] at hw
    exact ⟨[lo, hi], hw, rfl⟩

theorem Shape.build_ne_invalidOpcode (sh : Shape) (bytes : List Byte) (opcode : Byte) :
    sh.build bytes ≠ .error (.invalidOpcode opcode) := by
  fun_cases Shape.build sh bytes <;> simp

/-! ## The rows against the encodings -/

/-- What a row makes is encoded as the row's opcode and the operand bytes it was made from. -/
def Row.Encodes (r : Row) : Prop :=
  ∀ operands i, r.shape.Makes operands i → encode i = r.opcode :: operands

section

variable (opcode : Byte) (op : Op) (mode : Mode) (base : Nat) (penalty : Penalty)

theorem encodes_row_alone (i : Instr) :
    (row opcode op mode base penalty (.alone i)).Encodes ↔ encode i = [opcode] := by
  refine ⟨fun h => h [] i (.alone i), fun h operands j hm => ?_⟩
  cases hm
  exact h

theorem encodes_row_byte (make : Byte → Instr) :
    (row opcode op mode base penalty (.byte make)).Encodes ↔ ∀ b, encode (make b) = [opcode, b] := by
  refine ⟨fun h b => h [b] (make b) (.byte make b), fun h operands j hm => ?_⟩
  cases hm with
  | byte _ b => exact h b

theorem encodes_row_word (make : Addr → Instr) :
    (row opcode op mode base penalty (.word make)).Encodes ↔
      ∀ w, encode (make w) = [opcode, loByte w, hiByte w] := by
  refine ⟨fun h w => h [loByte w, hiByte w] (make w) (.word make w), fun h operands j hm => ?_⟩
  cases hm with
  | word _ w => exact h w

end

/-- Row by row, the "Encoding" line of the instruction's rule has the row's opcode (R112). -/
theorem row_encodes : ∀ r ∈ decodeRows.flatten, r.Encodes := by
  rw [List.forall_mem_flatten]
  simp only [decodeRows, rows0, rows1, rows2, rows3, rows4, rows5, rows6, rows7, rows8, rows9, rowsA, rowsB, rowsC,
    rowsD, rowsE, rowsF, List.forall_mem_cons, List.not_mem_nil, encodes_row_alone, encodes_row_byte, encodes_row_word,
    encode, false_implies, implies_true, and_self]

/-- Every instruction is made by a row, the one of its encoding's opcode, which names its operation and mode. -/
theorem exists_row (i : Instr) :
    ∃ opcode operands r, encode i = opcode :: operands ∧ rowOf opcode = some r ∧ r.shape.Makes operands i ∧
      (r.desc.op, r.desc.mode) = i.form := by
  cases i <;> exact ⟨_, _, _, rfl, rfl, by constructor, rfl⟩

/-- The decoder inverts the encoder, both ways. -/
theorem decode_eq_instr_iff {bytes rest : List Byte} : decode bytes = .instr i rest ↔ bytes = encode i ++ rest := by
  constructor
  · intro h
    cases bytes with
    | nil => cases h
    | cons opcode tail =>
      cases hr : rowOf opcode with
      | none => cases (decode_of_rowOf_none hr tail).symm.trans h
      | some r =>
        rw [decode_of_rowOf hr] at h
        obtain ⟨operands, hm, rfl⟩ := Shape.makes_of_build h
        rw [row_encodes r (rowOf_mem hr) operands i hm, rowOf_opcode hr, List.cons_append]
  · rintro rfl
    obtain ⟨opcode, operands, r, henc, hrow, hm, -⟩ := exists_row i
    rw [henc, List.cons_append, decode_of_rowOf hrow, hm.build_append]

/-- Settles O1: from encoding to decoding. -/
theorem decodeReadsBackEveryEncoding : Obligations.DecodeReadsBackEveryEncoding :=
  fun _ _ => decode_eq_instr_iff.2 rfl

/-- Settles O2: from decoding to encoding. -/
theorem decodedBytesAreTheEncoding : Obligations.DecodedBytesAreTheEncoding :=
  fun _ _ _ h => decode_eq_instr_iff.1 h

/-! ## The length of an instruction (R86, R90) -/

theorem encode_length (i : Instr) : (encode i).length = i.mode.length := by
  obtain ⟨opcode, operands, r, henc, hrow, hm, hform⟩ := exists_row i
  have hmode : r.desc.mode = i.mode := congrArg Prod.snd hform
  rw [henc, List.length_cons, hm.length_eq, row_operandBytes r (rowOf_mem hrow), hmode, Mode.length, Nat.add_comm]

/-- The opcode alone gives the length of the whole encoding. -/
theorem encode_eq_cons (i : Instr) :
    ∃ opcode operands, encode i = opcode :: operands ∧ lengthOf opcode = (encode i).length := by
  obtain ⟨opcode, operands, r, henc, hrow, -, hform⟩ := exists_row i
  have hmode : r.desc.mode = i.mode := congrArg Prod.snd hform
  exact ⟨opcode, operands, henc, by simp [encode_length, lengthOf, hrow, hmode]⟩

/-! ## The rows and the illegal bytes -/

theorem rowOf_eq_none_iff : ∀ opcode : Byte, rowOf opcode = none ↔ opcode ∈ illegalOpcodes := by decide +kernel

theorem decode_eq_invalidOpcode_iff (opcode : Byte) (rest : List Byte) :
    decode (opcode :: rest) = .error (.invalidOpcode opcode) ↔ rowOf opcode = none := by
  constructor
  · intro h
    cases hr : rowOf opcode with
    | none => rfl
    | some r => exact absurd ((decode_of_rowOf hr rest).symm.trans h) (r.shape.build_ne_invalidOpcode rest opcode)
  · exact fun h => decode_of_rowOf_none h rest

/-- Settles O4: the listed bytes are those without a row. -/
theorem illegalOpcodesAreTheListedOnes : Obligations.IllegalOpcodesAreTheListedOnes :=
  ⟨rfl, fun opcode rest => (decode_eq_invalidOpcode_iff opcode rest).trans (rowOf_eq_none_iff opcode)⟩

theorem row_wf : ∀ r ∈ decodeRows.flatten, r.desc.wf = true := by decide +kernel

/-- Settles O5: by evaluating the table; no mode has an invalid pair. -/
theorem decodeTableRowsAreWellFormed : Obligations.DecodeTableRowsAreWellFormed :=
  ⟨rfl, fun r hr => ⟨row_wf r hr, Machine.pairDefined_true r.desc.mode⟩⟩

end Sys2Proof
end

section
/-! SUPPORT. The step runs the instruction at PC, or records that there is none (30_encoding.md R80, R81, R121). -/

namespace Sys2Proof.Machine

open Sys2Proof.Claims

variable {s : State} {i : Instr}

theorem step_of_decode {rest : List Byte} (hs : s.executes) (h : decode s.fetchBytes = .instr i rest) :
    step s = exec i s :=
  (step_executes hs).trans (State.executeOne_instr h)

/-- Settles O6: nothing comes before the instruction. -/
theorem stepExecutesDecodedInstruction : Obligations.StepExecutesDecodedInstruction :=
  fun _ _ _ hs h _ => step_of_decode hs h

/-- A fetch from memory that holds an encoding at PC reads all of it and nothing after it. -/
theorem State.fetchBytes_of_holds (h : s.holds s.pc (encode i)) : s.fetchBytes = encode i := by
  obtain ⟨opcode, operands, henc, hlen⟩ := encode_eq_cons i
  have hopcode : s.load s.pc = opcode := by simpa [henc] using h 0 (by simp [henc])
  refine List.ext_getElem (by rw [State.fetchBytes_length, hopcode, hlen]) fun k _ hk => ?_
  simp only [State.fetchBytes, List.getElem_map, List.getElem_range]
  exact h k hk

/-- Settles O7: the bytes fetched are the encoding, which decodes to the instruction. -/
theorem stepExecutesEncodedInstruction : Obligations.StepExecutesEncodedInstruction := by
  intro s i hs h
  refine step_of_decode (rest := []) hs ?_
  rw [State.fetchBytes_of_holds h, decode_eq_instr_iff, List.append_nil]

theorem step_of_illegal (hs : s.executes) (h : s.load s.pc ∈ illegalOpcodes) :
    step s = .next (s.raise .invalidOpcode) := by
  obtain ⟨operands, hf, -⟩ := s.fetchBytes_cons
  rw [step_executes hs]
  apply State.executeOne_error
  rw [hf]
  exact decode_of_rowOf_none ((rowOf_eq_none_iff _).2 h) operands

theorem act_step_of_fault {r : FaultRecord} (h : s.fault = some r) : act .step s = s := by
  simp only [act, step_of_fault h]

/-- Settles O9: the illegal byte has no row, and the fault it raises halts the block. -/
theorem illegalOpcodeRecordsFaultAndHalts : Obligations.IllegalOpcodeRecordsFaultAndHalts :=
  fun _ hs h => ⟨_, step_of_illegal hs h, rfl, rfl, act_step_of_fault rfl, rfl⟩

end Sys2Proof.Machine
end

section
/-! SUPPORT. How an instruction ends (30_encoding.md R81, R107): with PC past its bytes, or where it transfers control to,
and the cost of its decode-table row added. -/

namespace Sys2Proof.Machine

open Sys2Proof.Claims

variable {i : Instr} {s u : State} {d : Desc}

/-- The cost of a row, the cycles of a taken branch apart: its base count and, if the row has the page penalty, a cycle for
a crossed page (R106). -/
def rowCost (d : Desc) (i : Instr) (s : State) : Cycles :=
  BitVec.ofNat 64 d.base + if d.penalty = .page ∧ (resolved i s).2 = true then 1 else 0

/-- The ways an instruction of the row `d` ends. -/
inductive Ends (i : Instr) (s : State) (d : Desc) : Prop
  | retires (u : State) (hexec : exec i s = .next (u.retire (BitVec.ofNat 16 i.mode.length) (rowCost d i s)))
      (hpc : u.pc = s.pc) (hcycles : u.cycles = s.cycles) (hbranch : branchTaken i.op s.p = false)
  | transfers (u : State) (hexec : exec i s = .next (u.addCycles (rowCost d i s))) (hcycles : u.cycles = s.cycles)
      (hop : i.op ∈ [Op.JMP, .JSR, .RTS, .RTI, .BRK])
  | branches (disp : Byte) (hexec : exec i s = branch (branchTaken i.op s.p) disp s) (hmode : i.mode = .REL)
      (hbase : d.base = 2) (hpenalty : d.penalty = .branch)

theorem rowCost_of_no_page (h : d.penalty ≠ .page) : rowCost d i s = BitVec.ofNat 64 d.base := by
  simp [rowCost, h]

theorem rowCost_of_page (h : d.penalty = .page) :
    rowCost d i s = BitVec.ofNat 64 d.base + pagePenalty (resolved i s).2 := by
  simp [rowCost, h, pagePenalty]

/-- An instruction of fixed cost that does not transfer control. -/
theorem ends_of_fixed {length : Addr} {cost : Cycles} (hexec : exec i s = .next (u.retire length cost))
    (hlength : length = BitVec.ofNat 16 i.mode.length) (hpenalty : d.penalty = .none)
    (hcost : cost = BitVec.ofNat 64 d.base) (hpc : u.pc = s.pc) (hcycles : u.cycles = s.cycles)
    (hbranch : branchTaken i.op s.p = false) : Ends i s d := by
  refine .retires u ?_ hpc hcycles hbranch
  rw [hexec, hlength, hcost, rowCost_of_no_page (by simp [hpenalty])]

/-- An instruction that pays for the page `Resolve` crosses. -/
theorem ends_of_page {length : Addr} {cost : Cycles} {page : Bool}
    (hexec : exec i s = .next (u.retire length (cost + pagePenalty page))) (hpage : (resolved i s).2 = page)
    (hlength : length = BitVec.ofNat 16 i.mode.length) (hpenalty : d.penalty = .page)
    (hcost : cost = BitVec.ofNat 64 d.base) (hpc : u.pc = s.pc) (hcycles : u.cycles = s.cycles)
    (hbranch : branchTaken i.op s.p = false) : Ends i s d := by
  refine .retires u ?_ hpc hcycles hbranch
  rw [hexec, hlength, hcost, rowCost_of_page hpenalty, hpage]

theorem ends_of_transfer {op : Op} {mode : Mode} {cost : Cycles} (hexec : exec i s = .next (u.addCycles cost))
    (hpenalty : d.penalty = .none) (hcost : cost = BitVec.ofNat 64 d.base) (hcycles : u.cycles = s.cycles)
    (hform : i.form = (op, mode)) (hop : op ∈ [Op.JMP, .JSR, .RTS, .RTI, .BRK]) : Ends i s d := by
  refine .transfers u ?_ hcycles (by rwa [Instr.op, hform])
  rw [hexec, hcost, rowCost_of_no_page (by simp [hpenalty])]

/-- Every instruction has a row, which says how it ends. -/
theorem exec_ends (i : Instr) (s : State) :
    ∃ opcode operands r, encode i = opcode :: operands ∧ rowOf opcode = some r ∧ Ends i s r.desc := by
  cases i <;> refine ⟨_, _, _, rfl, rfl, ?_⟩
  case bcc disp | bcs disp | beq disp | bne disp | bmi disp | bpl disp | bvc disp | bvs disp =>
    exact .branches disp rfl rfl rfl rfl
  case jmpAbs | jmpInd | jsr | rts | rti | brk => exact ends_of_transfer rfl rfl rfl rfl rfl (by decide)
  case adcAbx base | sbcAbx base | andAbx base | oraAbx base | eorAbx base | cmpAbx base | ldaAbx base | ldyAbx base =>
    exact ends_of_page rfl (congrArg (crossed · s.x) (wordOf_hiByte_loByte base)) rfl rfl rfl rfl rfl rfl
  case adcAby base | sbcAby base | andAby base | oraAby base | eorAby base | cmpAby base | ldaAby base | ldxAby base =>
    exact ends_of_page rfl (congrArg (crossed · s.y) (wordOf_hiByte_loByte base)) rfl rfl rfl rfl rfl rfl
  case adcIzy | sbcIzy | andIzy | oraIzy | eorIzy | cmpIzy | ldaIzy =>
    exact ends_of_page rfl rfl rfl rfl rfl rfl rfl rfl
  all_goals exact ends_of_fixed rfl rfl rfl rfl rfl rfl rfl

theorem branchTaken_of_transfer {op : Op} (h : op ∈ [Op.JMP, .JSR, .RTS, .RTI, .BRK]) (p : Status) :
    branchTaken op p = false := by
  fin_cases h <;> rfl

/-- The cycles of a taken branch: one, and one more to another page (49_branch_flags_nop.md R230). -/
theorem branch_true_cycles (disp : Byte) (s : State) : ∃ t, branch true disp s = .next t ∧
    t.cycles = s.cycles + 2 + if hiByte t.pc = hiByte (s.pc + 2) then 1 else 2 := by
  have hcost (same : Prop) [Decidable same] :
      3 + pagePenalty (decide (¬same)) = (2 : Cycles) + if same then 1 else 2 := by
    by_cases h : same <;> simp [h, pagePenalty]
  exact ⟨_, rfl, by rw [BitVec.add_assoc, ← hcost]; rfl⟩

/-- Settles O22: by the ways an instruction ends. -/
theorem everyInstructionCompletesAtTableCost : Obligations.EveryInstructionCompletesAtTableCost := by
  intro i s
  obtain ⟨opcode, operands, r, henc, hrow, hends⟩ := exec_ends i s
  rw [henc, List.headD_cons]
  refine ⟨r, ?_⟩
  cases hends with
  | retires u hexec _ hcycles hbranch =>
    exact ⟨_, hrow, hexec, by simp [hcycles, hbranch, rowCost, BitVec.add_assoc]⟩
  | transfers u hexec hcycles hop =>
    exact ⟨_, hrow, hexec, by simp [hcycles, branchTaken_of_transfer hop, rowCost, BitVec.add_assoc]⟩
  | branches disp hexec _ hbase hpenalty =>
    cases hcond : branchTaken i.op s.p with
    | true =>
      obtain ⟨t, ht, hcycles⟩ := branch_true_cycles disp s
      exact ⟨t, hrow, by rw [hexec, hcond, ht], by simp [hbase, hpenalty, hcycles]⟩
    | false => exact ⟨_, hrow, by rw [hexec, hcond]; rfl, by simp [hbase, hpenalty]⟩

/-- Settles O24: by the ways an instruction ends; a branch not taken retires as every other. -/
theorem pcAdvancesByInstructionLength : Obligations.PcAdvancesByInstructionLength := by
  intro i s hop hbranch
  obtain ⟨-, -, r, -, -, hends⟩ := exec_ends i s
  cases hends with
  | retires u hexec hpc => exact ⟨_, hexec, by simp [hpc]⟩
  | transfers _ _ _ hop' => exact absurd hop' hop
  | branches disp hexec hmode => exact ⟨_, by rw [hexec, hbranch]; rfl, by rw [hmode]; rfl⟩

end Sys2Proof.Machine
end

section
/-! SUPPORT. The effective addresses on integers (30_encoding.md R95 to R106), and the operand bytes they are computed
from. -/

namespace Sys2Proof

open Sys2Proof.Claims

/-! ## The modes an operation takes -/

theorem mode_mem_modes (i : Instr) : i.mode ∈ i.op.modes := by
  obtain ⟨_, _, r, _, hrow, _, hform⟩ := exists_row i
  have hwf := row_wf r (rowOf_mem hrow)
  simp only [Desc.wf, formOk, Bool.and_eq_true, List.contains_iff_mem] at hwf
  obtain ⟨⟨⟨-, hmem⟩, -⟩, -⟩ := hwf
  rwa [Instr.mode, Instr.op, ← hform]

theorem op_of_zpy {op : Op} (h : Mode.ZPY ∈ op.modes) : op ∈ [Op.LDX, .STX] := by
  cases op <;> simp_all [Op.modes]

theorem op_of_rel {op : Op} (h : Mode.REL ∈ op.modes) : op ∈ branchOps := by
  cases op <;> simp_all [Op.modes, branchOps]

theorem op_of_ind {op : Op} (h : Mode.IND ∈ op.modes) : op = .JMP := by
  cases op <;> simp_all [Op.modes]

namespace Machine

/-! ## Addresses on integers -/

theorem zext16_toNat (v : Byte) : (zext16 v).toNat = v.toNat :=
  BitVec.toNat_setWidth_of_le (by decide)

theorem add_zext16_toNat (base : Addr) (index : Byte) :
    (base + zext16 index).toNat = (base.toNat + index.toNat) % 65536 := by
  rw [BitVec.toNat_add, zext16_toNat]

theorem zext16_add_toNat (zp index : Byte) : (zext16 (zp + index)).toNat = (zp.toNat + index.toNat) % 256 := by
  rw [zext16_toNat, BitVec.toNat_add]

theorem eaRel_toNat (disp : Byte) (s : State) :
    ((eaRel disp s).toNat : Int) = ((s.pc.toNat : Int) + 2 + disp.toInt) % 65536 := by
  have hsext : (sext16 disp).toNat = (disp.toInt % 65536).toNat := BitVec.toNat_ofInt ..
  rw [eaRel, BitVec.toNat_add, BitVec.toNat_add, hsext, show (2 : Addr).toNat = 2 from rfl]
  omega

/-- `crossed` compares the quotients by the page size. -/
theorem crossed_iff (base : Addr) (index : Byte) :
    crossed base index = true ↔ (base + zext16 index).toNat / 256 ≠ base.toNat / 256 := by
  rw [crossed, decide_eq_true_iff, Ne, ← BitVec.toNat_inj, hiByte_toNat, hiByte_toNat]

/-- Settles O56: on integers. -/
theorem pageIsCrossedWhenLowByteOverflows : Obligations.PageIsCrossedWhenLowByteOverflows := by
  intro base index
  have hbase := base.isLt
  have hindex := index.isLt
  rw [crossed_iff, loByte_toNat, loByte_toNat, add_zext16_toNat]
  constructor <;> omega

/-- Adding 1 to a word whose low byte is not 0xFF keeps its page. -/
theorem wordOf_add_one (hi : Byte) {lo : Byte} (h : lo ≠ 0xFF) : wordOf hi lo + 1 = wordOf hi (lo + 1) := by
  have hlo : lo.toNat ≠ 255 := fun heq => h (BitVec.eq_of_toNat_eq heq)
  have hlt := lo.isLt
  have hhi := hi.isLt
  apply BitVec.eq_of_toNat_eq
  rw [BitVec.toNat_add, wordOf_toNat, wordOf_toNat, BitVec.toNat_add, show (1 : Addr).toNat = 1 from rfl,
    show (1 : Byte).toNat = 1 from rfl]
  omega

/-- The high byte of an indirect target is read in the pointer's page or at the next address; the two are one when the
pointer's low byte is not 0xFF (R101). -/
theorem indHighAddr_eq (wrap : Bool) (hi lo : Byte) :
    indHighAddr wrap (wordOf hi lo) = if wrap = true then wordOf hi (lo + 1) else wordOf hi lo + 1 := by
  unfold indHighAddr
  rw [loByte_wordOf, hiByte_wordOf]
  split
  · next hff => subst hff; rfl
  · next hff => rw [wordOf_add_one hi hff, ite_self]

/-! ## The operand bytes in memory -/

variable {s : State} {i : Instr} {rest : List Byte}

/-- A fetch that decodes is the instruction's encoding: no byte is left over. -/
theorem State.fetchBytes_of_decode (h : decode s.fetchBytes = .instr i rest) : s.fetchBytes = encode i := by
  obtain ⟨j, hj⟩ | ⟨-, he⟩ := s.decode_fetchBytes
  · cases hj.symm.trans h
    simpa using decode_eq_instr_iff.1 h
  · cases he.symm.trans h

theorem State.fetchBytes_length_of_decode (h : decode s.fetchBytes = .instr i rest) {mode : Mode}
    (hmode : i.mode = mode) : s.fetchBytes.length = mode.length := by
  rw [State.fetchBytes_of_decode h, encode_length, hmode]

/-- The operand bytes lie after the opcode. -/
theorem operandByte_eq_load (h : decode s.fetchBytes = .instr i rest) {k : Nat} (hk : k < i.mode.operandBytes) :
    operandByte k i = s.load (s.pc + BitVec.ofNat 16 (k + 1)) := by
  have hlen : k + 1 < s.fetchBytes.length := by
    rw [State.fetchBytes_length_of_decode h rfl, Mode.length]; omega
  rw [operandByte, ← State.fetchBytes_of_decode h, List.getD_eq_getElem _ _ hlen]
  simp [State.fetchBytes]

/-- With one operand byte, `Resolve` uses that at PC + 1. -/
theorem resolved_of_byte (h : decode s.fetchBytes = .instr i rest) {mode : Mode} (hmode : i.mode = mode)
    (hone : mode.operandBytes = 1) : resolved i s = resolve mode (s.load (s.pc + 1)) (operandByte 1 i) s := by
  rw [resolved, operandByte_eq_load h (k := 0) (by rw [hmode, hone]; decide), hmode]
  rfl

theorem resolved_of_word (h : decode s.fetchBytes = .instr i rest) {mode : Mode} (hmode : i.mode = mode)
    (htwo : mode.operandBytes = 2) :
    resolved i s = resolve mode (s.load (s.pc + 1)) (s.load (s.pc + 2)) s := by
  rw [resolved, operandByte_eq_load h (k := 0) (by rw [hmode, htwo]; decide),
    operandByte_eq_load h (k := 1) (by rw [hmode, htwo]; decide), hmode]
  rfl

/-- Settles O57: each mode's address from its operand bytes, on integers. -/
theorem resolverComputesPlainAddresses : Obligations.ResolverComputesPlainAddresses := by
  intro s i rest h b0 b1 base
  have hlen {mode : Mode} := State.fetchBytes_length_of_decode h (mode := mode)
  have hbase : (wordOf b1 b0).toNat = base := by rw [wordOf_toNat, Nat.add_comm]
  refine ⟨fun hm => ⟨hlen hm, _, resolved_of_byte h hm rfl, zext16_toNat b0⟩,
    fun hm => ⟨hlen hm, _, resolved_of_byte h hm rfl, zext16_add_toNat b0 s.x⟩,
    fun hm => ⟨hlen hm, op_of_zpy (hm ▸ mode_mem_modes i), _, resolved_of_byte h hm rfl, zext16_add_toNat b0 s.y⟩,
    fun hm => ⟨hlen hm, _, resolved_of_word h hm rfl, hbase⟩,
    fun hm => ⟨hlen hm, _, _, resolved_of_word h hm rfl, ?_, ?_⟩,
    fun hm => ⟨hlen hm, _, _, resolved_of_word h hm rfl, ?_, ?_⟩,
    fun hm => ⟨hlen hm, op_of_rel (hm ▸ mode_mem_modes i), _, resolved_of_byte h hm rfl, eaRel_toNat b0 s⟩⟩
  · exact hbase ▸ add_zext16_toNat (wordOf b1 b0) s.x
  · exact hbase ▸ crossed_iff (wordOf b1 b0) s.x
  · exact hbase ▸ add_zext16_toNat (wordOf b1 b0) s.y
  · exact hbase ▸ crossed_iff (wordOf b1 b0) s.y

/-- Settles O58: each mode's pointer from its operand bytes. -/
theorem resolverFollowsPointers : Obligations.ResolverFollowsPointers := by
  intro s i rest h b0 b1 pointer
  have hlen {mode : Mode} := State.fetchBytes_length_of_decode h (mode := mode)
  refine ⟨fun hm => ⟨hlen hm, by rw [resolved, hm]; rfl⟩, fun hm => ⟨hlen hm, by rw [resolved, hm]; rfl⟩,
    fun hm => ⟨hlen hm, resolved_of_byte h hm rfl⟩,
    fun hm => ⟨hlen hm, op_of_ind (hm ▸ mode_mem_modes i), ?_⟩,
    fun hm => ⟨hlen hm, resolved_of_byte h hm rfl⟩, fun hm => ⟨hlen hm, resolved_of_byte h hm rfl⟩⟩
  rw [resolved_of_word h hm rfl, ← indHighAddr_eq]
  rfl

end Machine

end Sys2Proof
end

section
/-! SUPPORT. D is carried along, not read (10_state.md R32, 40_arithmetic.md R142). -/

namespace Sys2Proof.Machine

/-- The same state with another D. -/
def State.withDecimal (s : State) (d : Bool) : State := { s with p := { s.p with d := d } }

/-- A branch whose condition is the same with either D goes the same way. -/
theorem branch_withDecimal (cond : Bool) (disp : Byte) (s : State) (d : Bool) :
    ∃ t, branch cond disp s = .next t ∧ branch cond disp (s.withDecimal d) = .next (t.withDecimal d) := by
  cases cond <;> exact ⟨_, rfl, rfl⟩

/-- Settles O27: no branch condition is D; for every other instruction the two next states agree by computation. -/
theorem decimalFlagAffectsOnlyPushes : Obligations.DecimalFlagAffectsOnlyPushes := by
  intro i s d hop
  cases i
  case php | brk | cld | sed | plp | rti => exact absurd (by decide) hop
  case bcc disp | bcs disp | beq disp | bne disp | bmi disp | bpl disp | bvc disp | bvs disp =>
    exact branch_withDecimal _ disp s d
  all_goals exact ⟨_, rfl, rfl⟩

end Sys2Proof.Machine
end

section
/-! SUPPORT. ADC and SBC (40_arithmetic.md R140 to R144): V as signed overflow, SBC as ADC of the complement, and the
instructions' forms. -/

namespace Sys2Proof.Machine

open Sys2Proof.Claims

/-! ## ADC on signed integers -/

theorem adcResult_eq_add (a m : Byte) (c : Bool) : adcResult a m c = a + m + BitVec.ofNat 8 c.toNat := by
  simp [adcResult, adcSum, BitVec.ofNat_add]

/-- The result is the exact signed sum, less a multiple of 256. -/
theorem adcResult_toInt (a m : Byte) (c : Bool) :
    ∃ k : Int, a.toInt + m.toInt + c.toNat = (adcResult a m c).toInt + 256 * k := by
  have hc : (BitVec.ofNat 8 c.toNat).toInt = c.toNat := by cases c <;> rfl
  rw [adcResult_eq_add, BitVec.toInt_add, BitVec.toInt_add, Int.bmod_add_bmod, hc]
  exact ⟨_, (Int.bmod_add_bdiv _ _).symm⟩

/-- Bit 7 is the sign (R144). -/
theorem getLsbD_seven (v : Byte) : v.getLsbD 7 = decide (v.toInt < 0) := by
  rw [← BitVec.msb_eq_toInt, BitVec.msb_eq_getLsbD_last]

theorem toInt_bounds (v : Byte) : -128 ≤ v.toInt ∧ v.toInt ≤ 127 :=
  ⟨v.le_toInt, v.toInt_le⟩

/-- V of ADC: the result's sign is neither operand's. -/
theorem adcOverflow_iff_sign (a m : Byte) (c : Bool) :
    adcOverflow a m c = true ↔
      ¬(a.toInt < 0 ↔ (adcResult a m c).toInt < 0) ∧ ¬(m.toInt < 0 ↔ (adcResult a m c).toInt < 0) := by
  simp only [adcOverflow, BitVec.getLsbD_and, BitVec.getLsbD_xor, Bool.and_eq_true, bne_iff_ne]
  simp only [getLsbD_seven, ne_eq, decide_eq_decide]

/-- V of ADC is set exactly when the signed sum does not fit in eight bits (R140). -/
theorem adcOverflow_iff (a m : Byte) (c : Bool) :
    adcOverflow a m c = true ↔
      a.toInt + m.toInt + c.toNat < -128 ∨ 127 < a.toInt + m.toInt + c.toNat := by
  obtain ⟨k, hsum⟩ := adcResult_toInt a m c
  have hr := toInt_bounds (adcResult a m c)
  have ha := toInt_bounds a
  have hm := toInt_bounds m
  have hc := c.toNat_le
  rw [adcOverflow_iff_sign]
  omega

/-! ## SBC as ADC of the complement (R141) -/

theorem sbcDiff_eq (a m : Byte) (c : Bool) : sbcDiff a m c = (adcSum a (~~~m) c : Int) - 256 := by
  have := m.isLt
  simp only [sbcDiff, adcSum, BitVec.toNat_not]
  omega

theorem sbcResult_eq (a m : Byte) (c : Bool) : sbcResult a m c = adcResult a (~~~m) c := by
  rw [sbcResult, adcResult, sbcDiff_eq, Int.sub_eq_add_neg, BitVec.ofInt_add, BitVec.ofInt_natCast]
  exact BitVec.add_zero _

theorem sbcCarry_eq (a m : Byte) (c : Bool) : sbcCarry a m c = adcCarry a (~~~m) c := by
  rw [sbcCarry, adcCarry, sbcDiff_eq, decide_eq_decide]
  omega

/-- Either V needs A and M to differ in sign, which is that A and the complement agree in sign. -/
theorem sbcOverflow_eq (a m : Byte) (c : Bool) : sbcOverflow a m c = adcOverflow a (~~~m) c := by
  simp only [sbcOverflow, adcOverflow, sbcResult_eq, BitVec.getLsbD_and, BitVec.getLsbD_xor, BitVec.getLsbD_not]
  cases a.getLsbD 7 <;> cases m.getLsbD 7 <;> simp

theorem effSbc_eq_effAdc (m : Byte) (s : State) : effSbc m s = effAdc (~~~m) s := by
  simp only [effSbc, effAdc, Status.sbc, Status.adc, sbcResult_eq, sbcCarry_eq, sbcOverflow_eq]

/-- Settles O34: the two effects are one, and the instructions have the same length and cost. -/
theorem sbcIsAdcOfComplement : Obligations.SbcIsAdcOfComplement := by
  intro s m
  have hm : m ^^^ 0xFF = ~~~m := BitVec.xor_allOnes
  exact ⟨_, exec_sbcImm s m, by rw [hm, exec_adcImm, effSbc_eq_effAdc]⟩

theorem not_toInt (v : Byte) : (~~~v).toInt = -v.toInt - 1 := by
  have := v.isLt
  simp only [BitVec.toInt_eq_toNat_cond, BitVec.toNat_not]
  omega

/-- V of SBC is set exactly when the signed difference does not fit in eight bits (R141). -/
theorem sbcOverflow_iff (a m : Byte) (c : Bool) :
    sbcOverflow a m c = true ↔
      a.toInt - m.toInt - (1 - c.toNat) < -128 ∨ 127 < a.toInt - m.toInt - (1 - c.toNat) := by
  rw [sbcOverflow_eq, adcOverflow_iff, not_toInt]
  omega

/-- Settles O33: V is signed overflow for every operand and carry. -/
theorem overflowIsSignedOverflow : Obligations.OverflowIsSignedOverflow :=
  fun s m => ⟨_, _, exec_adcImm s m, exec_sbcImm s m, adcOverflow_iff s.a m s.p.c, sbcOverflow_iff s.a m s.p.c⟩

@[simp] theorem effAdc_a (m : Byte) (s : State) : (effAdc m s).a = adcResult s.a m s.p.c := rfl

@[simp] theorem effSbc_a (m : Byte) (s : State) : (effSbc m s).a = sbcResult s.a m s.p.c := rfl

/-- Without a borrow, SBC takes back what ADC without a carry added (R143). -/
theorem sbcResult_adcResult (a m : Byte) : sbcResult (adcResult a m false) m true = a := by
  rw [sbcResult_eq, adcResult_eq_add, adcResult_eq_add]
  bv_omega

/-- Settles O35: SEC gives SBC the carry that means no borrow. -/
theorem adcThenSbcRestoresA : Obligations.AdcThenSbcRestoresA := by
  intro s m hc
  exact ⟨_, _, _, exec_adcImm s m, exec_sec _, exec_sbcImm _ m, by simp [hc, sbcResult_adcResult]⟩

/-! ## The eight forms -/

theorem pagePenalty_crossed (base : Addr) (index : Byte) : pagePenalty (crossed base index) = pageCost base index := by
  simp [pagePenalty, crossed, pageCost]

/-- The form is encoded as its bytes; executed in `s`, it has the effect `eff` of its operand, at its cost. -/
def Runs (s : State) (eff : Byte → State → State) (f : ReadForm) : Prop :=
  encode f.instr = f.bytes ∧
    exec f.instr s = .next ((eff f.operand s).retire (BitVec.ofNat 16 f.bytes.length) f.cost)

theorem adcForms_run (s : State) (b : Byte) (w : Addr) : ∀ f ∈ adcForms s b w, Runs s effAdc f := by
  simp only [adcForms, ← pagePenalty_crossed, List.forall_mem_cons]
  refine ⟨?imm, ?zp, ?zpx, ?abs, ?abx, ?aby, ?izx, ?izy, List.forall_mem_nil _⟩
  all_goals exact ⟨rfl, rfl⟩

theorem sbcForms_run (s : State) (b : Byte) (w : Addr) : ∀ f ∈ sbcForms s b w, Runs s effSbc f := by
  simp only [sbcForms, ← pagePenalty_crossed, List.forall_mem_cons]
  refine ⟨?imm, ?zp, ?zpx, ?abs, ?abx, ?aby, ?izx, ?izy, List.forall_mem_nil _⟩
  all_goals exact ⟨rfl, rfl⟩

/-- Settles O31: the flags of the model's ADC are R140's formulas. -/
theorem adcAddsOperandAndCarry : Obligations.AdcAddsOperandAndCarry :=
  fun s b w f hf => adcForms_run s b w f hf

/-- Settles O32: the flags of the model's SBC are R141's formulas. -/
theorem sbcSubtractsOperandAndBorrow : Obligations.SbcSubtractsOperandAndBorrow :=
  fun s b w f hf => sbcForms_run s b w f hf

end Sys2Proof.Machine
end

section
/-! SUPPORT. Words written out from the rules' "Encoding" lines. -/

namespace Sys2Proof

/-- Settles O3: each word is the encoding of its instruction. -/
theorem familyWordsDecode : Obligations.FamilyWordsDecode := by
  simp only [Obligations.FamilyWordsDecode, decode_eq_instr_iff]
  decide

end Sys2Proof
end

section
/-! SUPPORT. AND, ORA, EOR and BIT (41_logical.md R150 to R153): each form runs its rule's effect on the operand it reads. -/

namespace Sys2Proof.Machine

open Sys2Proof.Claims

variable {s : State} {f : ReadForm}

/-- AND, ORA or EOR, by its operation on A and the operand. -/
def effOnA (op : Byte → Byte → Byte) (m : Byte) (s : State) : State := effLogical (op s.a m) s

theorem Runs.writesA {op : Byte → Byte → Byte} (h : Runs s (effOnA op) f) :
    WritesA s f (op s.a f.operand) (withNZ (op s.a f.operand) s.p) :=
  h

theorem Runs.setsFlagsOnly_of_bit (h : Runs s effBit f) :
    SetsFlagsOnly s f { s.p with
      z := decide (s.a &&& f.operand = 0), n := f.operand.getLsbD 7, v := f.operand.getLsbD 6 } :=
  h

theorem logicalForms_run (s : State) (b : Byte) (w : Addr) :
    (∀ f ∈ andForms s b w, Runs s (effOnA (· &&& ·)) f) ∧
    (∀ f ∈ oraForms s b w, Runs s (effOnA (· ||| ·)) f) ∧
    (∀ f ∈ eorForms s b w, Runs s (effOnA (· ^^^ ·)) f) := by
  simp only [andForms, oraForms, eorForms, ← pagePenalty_crossed, List.forall_mem_cons]
  refine ⟨?and, ?ora, ?eor⟩ <;>
    refine ⟨?_, ?_, ?_, ?_, ?_, ?_, ?_, ?_, List.forall_mem_nil _⟩
  all_goals exact ⟨rfl, rfl⟩

theorem bitForms_run (s : State) (b : Byte) (w : Addr) : ∀ f ∈ bitForms s b w, Runs s effBit f := by
  simp only [bitForms, List.forall_mem_cons]
  refine ⟨?zp, ?abs, List.forall_mem_nil _⟩
  all_goals exact ⟨rfl, rfl⟩

/-- Settles O36: every form writes its rule's result to A, and N and Z from it. -/
theorem logicalOperationsWriteA : Obligations.LogicalOperationsWriteA := by
  intro s b w
  obtain ⟨hand, hora, heor⟩ := logicalForms_run s b w
  exact ⟨fun f hf => (hand f hf).writesA, fun f hf => (hora f hf).writesA, fun f hf => (heor f hf).writesA⟩

/-- Settles O37: both forms write R153's flags, and A stays. -/
theorem bitTestsMemoryAgainstA : Obligations.BitTestsMemoryAgainstA :=
  fun s b w f hf => (bitForms_run s b w f hf).setsFlagsOnly_of_bit

end Sys2Proof.Machine
end

section
/-! SUPPORT. ASL, LSR, ROL and ROR (42_shift_rotate.md R160 to R163): the instructions' forms, and repeated ROLs of A as
rotations of the nine bits of C and A. -/

namespace Sys2Proof.Machine

open Sys2Proof.Claims

/-! ## Forms that store one byte -/

/-- The form is encoded as its bytes; executed in `s`, it has the effect `eff` at its address, at its cost. -/
def RunsAt (s : State) (eff : Addr → State → State) (f : StoreForm) : Prop :=
  encode f.instr = f.bytes ∧
    exec f.instr s = .next ((eff f.addr s).retire (BitVec.ofNat 16 f.bytes.length) f.cost)

/-- A form whose effect is one store and a write of P stores that byte and no other. -/
theorem RunsAt.storesByte {s : State} {eff : Addr → State → State} {f : StoreForm} {v : Byte} {p : Status}
    (h : RunsAt s eff f) (hwf : s.mem.wf = true) (heff : eff f.addr s = (s.store f.addr v).setP p) :
    StoresByte s f v p := by
  obtain ⟨hbytes, hexec⟩ := h
  rw [heff] at hexec
  exact ⟨hbytes, _, hexec, State.load_store_same hwf f.addr v, fun _ hne => State.load_store_other s hne v, rfl⟩

/-! ## The four shifts and rotates -/

/-- Every memory form has the effect `eff` at its address. -/
def FormsRun (forms : State → Byte → Addr → List StoreForm) (eff : Addr → State → State) : Prop :=
  ∀ s b w, ∀ f ∈ forms s b w, RunsAt s eff f

theorem shiftForms_run :
    FormsRun aslForms (effShift aslOut) ∧ FormsRun lsrForms (effShift lsrOut) ∧
    FormsRun rolForms (effShift rolOut) ∧ FormsRun rorForms (effShift rorOut) := by
  simp only [FormsRun, aslForms, lsrForms, rolForms, rorForms, List.forall_mem_cons]
  refine ⟨?asl, ?lsr, ?rol, ?ror⟩ <;> intro s b w <;>
    refine ⟨?_, ?_, ?_, ?_, List.forall_mem_nil _⟩
  all_goals exact ⟨rfl, rfl⟩

/-- The rule of one shift or rotate, from the model's function `g` for it: `g` gives the rule's result and bit shifted out,
and the accumulator form and the memory forms run it. -/
theorem shiftRule_of_runs {acc : Instr} {opcode : Byte} {forms : State → Byte → Addr → List StoreForm}
    {g : Bool → Byte → Byte × Bool} {result : Bool → Byte → Byte} {out : Byte → Bool}
    (hg : ∀ c v, g c v = (result c v, out v)) (hbytes : encode acc = [opcode])
    (hacc : ∀ s, exec acc s = .next ((effShiftA g s).retire 1 2))
    (hforms : FormsRun forms (effShift g)) : ShiftRule acc opcode forms result out := by
  refine ⟨fun s => ⟨hbytes, ?_⟩, fun s b w hwf f hf => (hforms s b w f hf).storesByte hwf ?_⟩
  · rw [hacc, effShiftA_eq, hg]
    rfl
  · rw [effShift_eq, hg]
    rfl

theorem rolOut_eq (c : Bool) (v : Byte) :
    rolOut c v = ((v <<< 1) ||| (if c then 0x01 else 0x00), v.getLsbD 7) := by
  cases c <;> rfl

theorem rorOut_eq (c : Bool) (v : Byte) :
    rorOut c v = ((v >>> 1) ||| (if c then 0x80 else 0x00), v.getLsbD 0) := by
  cases c <;> rfl

/-- Settles O38: the model's shift and rotate functions are the rules' formulas, and every form runs its own. -/
theorem shiftsAndRotates : Obligations.ShiftsAndRotates := by
  obtain ⟨hasl, hlsr, hrol, hror⟩ := shiftForms_run
  exact ⟨shiftRule_of_runs (fun _ _ => rfl) rfl exec_aslAcc hasl, shiftRule_of_runs (fun _ _ => rfl) rfl exec_lsrAcc hlsr,
    shiftRule_of_runs rolOut_eq rfl exec_rolAcc hrol, shiftRule_of_runs rorOut_eq rfl exec_rorAcc hror⟩

/-! ## Repeated ROLs of A -/

/-- The nine bits ROL A rotates (R162): C above A. -/
def State.carryA (s : State) : BitVec 9 := BitVec.cons s.p.c s.a

theorem carryA_eq_iff {s t : State} : t.carryA = s.carryA ↔ t.a = s.a ∧ t.p.c = s.p.c := by
  refine ⟨fun h => ⟨?_, ?_⟩, fun ⟨ha, hc⟩ => by simp only [State.carryA, ha, hc]⟩
  · simpa [State.carryA] using congrArg (BitVec.setWidth 8) h
  · simpa [State.carryA] using congrArg BitVec.msb h

theorem getElem_rolOut (c : Bool) (v : Byte) {i : Nat} (hi : i < 8) :
    (rolOut c v).1[i] = if i = 0 then c else v[i - 1] := by
  cases c <;> cases i <;> simp [rolOut_eq]

/-- ROL moves bit 7 to C and C to bit 0: it rotates the nine bits left by one. -/
theorem cons_rolOut (c : Bool) (v : Byte) :
    BitVec.cons (rolOut c v).2 (rolOut c v).1 = (BitVec.cons c v).rotateLeft 1 := by
  have hout : (rolOut c v).2 = v[7] := rfl
  ext i hi
  simp only [BitVec.getElem_rotateLeft, BitVec.getElem_cons, getElem_rolOut, hout]
  grind

theorem rotateLeft_one_rotateLeft (w : BitVec 9) (n : Nat) : (w.rotateLeft 1).rotateLeft n = w.rotateLeft (n + 1) := by
  ext i hi
  simp only [BitVec.getElem_rotateLeft]
  grind

theorem rotateLeft_nine (w : BitVec 9) : w.rotateLeft 9 = w := by
  ext i hi
  simp [BitVec.getElem_rotateLeft]

/-- `n` ROLs of A rotate C with A by `n`, and write nothing else but N, Z, PC and the counter. -/
theorem rolTimes_rotates (n : Nat) (s : State) : ∃ t, rolTimes n s = .next t ∧ t.carryA = s.carryA.rotateLeft n ∧
    t = { s with
      a := t.a, p := { s.p with n := t.p.n, z := t.p.z, c := t.p.c },
      pc := s.pc + BitVec.ofNat 16 n, cycles := s.cycles + BitVec.ofNat 64 (2 * n) } := by
  induction n generalizing s with
  | zero => exact ⟨s, rfl, by ext; simp [BitVec.getElem_rotateLeft], by simp⟩
  | succ n ih =>
    obtain ⟨t, hrun, hrot, hframe⟩ := ih ((effShiftA rolOut s).retire 1 2)
    have hone : ((effShiftA rolOut s).retire 1 2).carryA = s.carryA.rotateLeft 1 := cons_rolOut s.p.c s.a
    have hpc : s.pc + 1 + BitVec.ofNat 16 n = s.pc + BitVec.ofNat 16 (n + 1) := by bv_omega
    have hcycles : s.cycles + 2 + BitVec.ofNat 64 (2 * n) = s.cycles + BitVec.ofNat 64 (2 * (n + 1)) := by bv_omega
    refine ⟨t, hrun, by rw [hrot, hone, rotateLeft_one_rotateLeft], hframe.trans ?_⟩
    exact State.ext_fields rfl rfl rfl rfl hpc rfl hcycles rfl rfl rfl rfl

/-- Settles O39: nine rotations of nine bits bring each bit back to its place. -/
theorem nineRolsRestoreAAndC : Obligations.NineRolsRestoreAAndC := by
  intro s
  obtain ⟨t, hrun, hrot, hframe⟩ := rolTimes_rotates 9 s
  obtain ⟨ha, hc⟩ := carryA_eq_iff.mp (hrot.trans (rotateLeft_nine _))
  rw [ha, hc] at hframe
  exact ⟨t, hrun, ha, hc, hframe⟩

end Sys2Proof.Machine
end

section
/-! SUPPORT. CMP, CPX and CPY (43_compare.md R170 to R173): each form compares its rule's register with the operand it
reads. -/

namespace Sys2Proof.Machine

open Sys2Proof.Claims

variable {s : State} {f : ReadForm}

/-- CMP, CPX or CPY, by the register it compares with the operand. -/
def effCompareOn (reg : State → Byte) (m : Byte) (s : State) : State := effCompare (reg s) m s

theorem Runs.setsFlagsOnly_of_compare {reg : State → Byte} (h : Runs s (effCompareOn reg) f) :
    SetsFlagsOnly s f (s.p.compare (reg s) f.operand) :=
  h

theorem cmpForms_run (s : State) (b : Byte) (w : Addr) : ∀ f ∈ cmpForms s b w, Runs s (effCompareOn State.a) f := by
  simp only [cmpForms, ← pagePenalty_crossed, List.forall_mem_cons]
  refine ⟨?imm, ?zp, ?zpx, ?abs, ?abx, ?aby, ?izx, ?izy, List.forall_mem_nil _⟩
  all_goals exact ⟨rfl, rfl⟩

theorem cpxForms_run (s : State) (b : Byte) (w : Addr) : ∀ f ∈ cpxForms s b w, Runs s (effCompareOn State.x) f := by
  simp only [cpxForms, List.forall_mem_cons]
  refine ⟨?imm, ?zp, ?abs, List.forall_mem_nil _⟩
  all_goals exact ⟨rfl, rfl⟩

theorem cpyForms_run (s : State) (b : Byte) (w : Addr) : ∀ f ∈ cpyForms s b w, Runs s (effCompareOn State.y) f := by
  simp only [cpyForms, List.forall_mem_cons]
  refine ⟨?imm, ?zp, ?abs, List.forall_mem_nil _⟩
  all_goals exact ⟨rfl, rfl⟩

/-- Settles O40: every form compares its rule's register, and R170's flags are the model's. -/
theorem comparesSetFlagsOnly : Obligations.ComparesSetFlagsOnly :=
  fun s b w =>
    ⟨fun f hf => (cmpForms_run s b w f hf).setsFlagsOnly_of_compare,
      fun f hf => (cpxForms_run s b w f hf).setsFlagsOnly_of_compare,
      fun f hf => (cpyForms_run s b w f hf).setsFlagsOnly_of_compare⟩

end Sys2Proof.Machine
end

section
/-! SUPPORT. INC, DEC, INX, INY, DEX and DEY (44_inc_dec.md R180 to R185): the memory forms each store one byte, and an
implied-mode instruction is its effect on the state with PC and the counter advanced. -/

namespace Sys2Proof.Machine

open Sys2Proof.Claims

/-! ## INC and DEC on memory -/

theorem incForms_run : FormsRun incForms effInc := by
  intro s b w
  simp only [incForms, List.forall_mem_cons]
  refine ⟨?zp, ?zpx, ?abs, ?abx, List.forall_mem_nil _⟩
  all_goals exact ⟨rfl, rfl⟩

theorem decForms_run : FormsRun decForms effDec := by
  intro s b w
  simp only [decForms, List.forall_mem_cons]
  refine ⟨?zp, ?zpx, ?abs, ?abx, List.forall_mem_nil _⟩
  all_goals exact ⟨rfl, rfl⟩

/-- Settles O41: each form's effect is one store at its address, with N and Z from the byte stored. -/
theorem incAndDecWriteMemory : Obligations.IncAndDecWriteMemory :=
  fun s b w hwf =>
    ⟨fun f hf => (incForms_run s b w f hf).storesByte hwf (effInc_eq f.addr s),
      fun f hf => (decForms_run s b w f hf).storesByte hwf (effDec_eq f.addr s)⟩

/-! ## Implied-mode instructions of one byte and two cycles -/

/-- The rule of an implied-mode instruction whose effect `after` writes neither PC nor the counter. -/
theorem impliedRule_of_exec {i : Instr} {opcode : Byte} {after : State → State} (hbytes : encode i = [opcode])
    (hexec : ∀ s, exec i s = .next ((after s).retire 1 2)) (hpc : ∀ s, (after s).pc = s.pc)
    (hcycles : ∀ s, (after s).cycles = s.cycles) : ImpliedRule i opcode after := by
  intro s
  refine ⟨hbytes, ?_⟩
  rw [hexec, ← hpc s, ← hcycles s]
  rfl

/-- Settles O42: each of the four writes its index register and N and Z from it, before PC and the counter advance. -/
theorem indexIncrementsAndDecrements : Obligations.IndexIncrementsAndDecrements :=
  ⟨impliedRule_of_exec rfl exec_inx (fun _ => rfl) (fun _ => rfl),
    impliedRule_of_exec rfl exec_iny (fun _ => rfl) (fun _ => rfl),
    impliedRule_of_exec rfl exec_dex (fun _ => rfl) (fun _ => rfl),
    impliedRule_of_exec rfl exec_dey (fun _ => rfl) (fun _ => rfl)⟩

end Sys2Proof.Machine
end

section
/-! SUPPORT. LDA, LDX, LDY, STA, STX and STY (45_load_store.md R190 to R195): each load runs its rule's effect on the operand
it reads, and each store puts its rule's register at the form's address. -/

namespace Sys2Proof.Machine

open Sys2Proof.Claims

/-! ## LDA, LDX and LDY -/

theorem ldaForms_run (s : State) (b : Byte) (w : Addr) : ∀ f ∈ ldaForms s b w, Runs s effLda f := by
  simp only [ldaForms, ← pagePenalty_crossed, List.forall_mem_cons]
  refine ⟨?imm, ?zp, ?zpx, ?abs, ?abx, ?aby, ?izx, ?izy, List.forall_mem_nil _⟩
  all_goals exact ⟨rfl, rfl⟩

theorem ldxForms_run (s : State) (b : Byte) (w : Addr) : ∀ f ∈ ldxForms s b w, Runs s effLdx f := by
  simp only [ldxForms, ← pagePenalty_crossed, List.forall_mem_cons]
  refine ⟨?imm, ?zp, ?zpy, ?abs, ?aby, List.forall_mem_nil _⟩
  all_goals exact ⟨rfl, rfl⟩

theorem ldyForms_run (s : State) (b : Byte) (w : Addr) : ∀ f ∈ ldyForms s b w, Runs s effLdy f := by
  simp only [ldyForms, ← pagePenalty_crossed, List.forall_mem_cons]
  refine ⟨?imm, ?zp, ?zpx, ?abs, ?abx, List.forall_mem_nil _⟩
  all_goals exact ⟨rfl, rfl⟩

/-- Settles O43: the effect of a load on its operand writes the rule's register, and N and Z from it. -/
theorem loadsWriteRegisterAndNZ : Obligations.LoadsWriteRegisterAndNZ :=
  fun s b w => ⟨ldaForms_run s b w, ldxForms_run s b w, ldyForms_run s b w⟩

/-! ## STA, STX and STY -/

/-- STA, STX or STY, by the register it stores. -/
def effStore (reg : State → Byte) (addr : Addr) (s : State) : State := s.store addr (reg s)

theorem staForms_run : FormsRun staForms (effStore State.a) := by
  intro s b w
  simp only [staForms, List.forall_mem_cons]
  refine ⟨?zp, ?zpx, ?abs, ?abx, ?aby, ?izx, ?izy, List.forall_mem_nil _⟩
  all_goals exact ⟨rfl, rfl⟩

theorem stxForms_run : FormsRun stxForms (effStore State.x) := by
  intro s b w
  simp only [stxForms, List.forall_mem_cons]
  refine ⟨?zp, ?zpy, ?abs, List.forall_mem_nil _⟩
  all_goals exact ⟨rfl, rfl⟩

theorem styForms_run : FormsRun styForms (effStore State.y) := by
  intro s b w
  simp only [styForms, List.forall_mem_cons]
  refine ⟨?zp, ?zpx, ?abs, List.forall_mem_nil _⟩
  all_goals exact ⟨rfl, rfl⟩

/-- Storing a register leaves the status as it was. -/
theorem RunsAt.storesRegister {s : State} {reg : State → Byte} {f : StoreForm} (h : RunsAt s (effStore reg) f)
    (hwf : s.mem.wf = true) : StoresByte s f (reg s) s.p :=
  h.storesByte hwf rfl

/-- Settles O44: each form's effect is one store of its rule's register at its address. -/
theorem storesWriteOneByte : Obligations.StoresWriteOneByte :=
  fun s b w hwf =>
    ⟨fun f hf => (staForms_run s b w f hf).storesRegister hwf,
      fun f hf => (stxForms_run s b w f hf).storesRegister hwf,
      fun f hf => (styForms_run s b w f hf).storesRegister hwf⟩

end Sys2Proof.Machine
end

section
/-! SUPPORT. TAX, TAY, TXA, TYA, TSX and TXS (46_transfer.md R200 to R205): each is an implied-mode instruction whose effect
is one register write, with N and Z from the byte written for all but TXS. -/

namespace Sys2Proof.Machine

/-- Settles O45: each transfer writes its destination from its source, before PC and the counter advance. -/
theorem transfersCopyRegisters : Obligations.TransfersCopyRegisters :=
  ⟨impliedRule_of_exec rfl exec_tax (fun _ => rfl) (fun _ => rfl),
    impliedRule_of_exec rfl exec_tay (fun _ => rfl) (fun _ => rfl),
    impliedRule_of_exec rfl exec_txa (fun _ => rfl) (fun _ => rfl),
    impliedRule_of_exec rfl exec_tya (fun _ => rfl) (fun _ => rfl),
    impliedRule_of_exec rfl exec_tsx (fun _ => rfl) (fun _ => rfl),
    impliedRule_of_exec rfl exec_txs (fun _ => rfl) (fun _ => rfl)⟩

end Sys2Proof.Machine
end

section
/-! SUPPORT. PHA, PLA, PHP and PLP (47_stack.md R210 to R215): a push instruction writes one byte of the stack page, and the
pulls of a PLA, a PLP or an RTS undo the pushes of a PHA, a PHP or a JSR. -/

namespace Sys2Proof.Machine

open Sys2Proof.Claims

/-! ## Pulls that undo pushes -/

/-- What a push and a pull leave together: the byte written, and nothing else. -/
theorem State.pull_push (s : State) (v : Byte) : (s.push v).pull = { s with mem := (s.push v).mem } := by
  simp [State.push, State.pull, State.setSp, State.store]

/-- What two pushes and two pulls leave together: the two bytes written, and nothing else. -/
theorem State.pull16_push16 (s : State) (w : Addr) : (s.push16 w).pull16 = { s with mem := (s.push16 w).mem } := by
  calc (s.push16 w).pull16
      = { (s.push (hiByte w)).pull with mem := (s.push16 w).mem } := by
        rw [State.pull16, State.push16, State.pull_push]; rfl
    _ = { s with mem := (s.push16 w).mem } := by rw [State.pull_push]

/-- Settles O51: the byte or word pulled is the one pushed, and S is back where it was. -/
theorem pullsUndoPushes : Obligations.PullsUndoPushes := by
  intro s a q w hwf
  refine ⟨?pha, ?php, ?jsr⟩
  case pha => exact ⟨_, _, exec_pha s, exec_pla _, State.pulled_push hwf s.a, State.pull_push_sp s s.a⟩
  case php =>
    have hpulled : ({ q with b := s.p.b } : Status).writeP (s.push (s.p.pushed true)).pulled = s.p := by
      rw [State.pulled_push hwf, Status.writeP_pushed]
    exact ⟨_, _, exec_php s, exec_plp _, hpulled, State.pull_push_sp s (s.p.pushed true)⟩
  case jsr =>
    have hpulled : (s.push16 (s.pc + 2)).pulled16 + 1 = s.pc + 3 := by
      rw [State.pulled16_push16 hwf, add_assoc]; rfl
    have hcycles : s.cycles + 6 + 6 = s.cycles + 12 := add_assoc s.cycles 6 6
    refine ⟨_, _, exec_jsr s w, exec_rts _, ?_⟩
    calc
      _ = { (s.push16 (s.pc + 2)).pull16 with
            pc := (s.push16 (s.pc + 2)).pulled16 + 1, cycles := s.cycles + 6 + 6 } := rfl
      _ = { s with mem := (s.push16 (s.pc + 2)).mem, pc := s.pc + 3, cycles := s.cycles + 12 } := by
        rw [State.pull16_push16, hpulled, hcycles]

/-! ## The four instructions -/

/-- The rule of an instruction that pushes one byte, then ends at its length and cost. -/
theorem pushRule_of_exec {i : Instr} {opcode : Byte} {v : State → Byte} (hbytes : encode i = [opcode])
    (hexec : ∀ s, exec i s = .next ((s.push (v s)).retire 1 3)) : PushRule i opcode v :=
  fun s hwf =>
    ⟨hbytes, _, hexec s, State.load_push_same hwf (v s), fun _ hne => State.load_push_other s hne (v s), rfl⟩

/-- `PushedP(1)` is the byte of P with bits 4 and 5 set (10_state.md R36). -/
theorem Status.pushed_true_eq (p : Status) : p.pushed true = p.toByte ||| 0x30 :=
  (by decide : ∀ n v b d i z c : Bool,
    Status.pushed true ⟨n, v, b, d, i, z, c⟩ = Status.toByte ⟨n, v, b, d, i, z, c⟩ ||| 0x30) p.n p.v p.b p.d p.i p.z p.c

/-- Settles O46: each is one push, of A or of `PushedP(1)`. -/
theorem pushesWriteAtStackPointer : Obligations.PushesWriteAtStackPointer :=
  ⟨pushRule_of_exec rfl exec_pha, pushRule_of_exec rfl fun s => by rw [exec_php, Status.pushed_true_eq]⟩

/-- Settles O47: each is one pull, with its byte written to A, N and Z, or to P. -/
theorem pullsReadAboveStackPointer : Obligations.PullsReadAboveStackPointer :=
  fun s => ⟨⟨rfl, exec_pla s⟩, ⟨rfl, exec_plp s⟩⟩

end Sys2Proof.Machine
end

section
/-! SUPPORT. JMP, JSR, RTS, RTI and BRK (48_control_transfer.md R220 to R224): what the shared stack operations leave of
the state, in the words of the statements. -/

namespace Sys2Proof.Machine

open Sys2Proof.Claims

/-! ## The stack pointer after two and three pushes or pulls -/

theorem sub_one_sub_one (p : Byte) : p - 1 - 1 = p - 2 := sub_sub p 1 1

theorem sub_one_sub_one_sub_one (p : Byte) : p - 1 - 1 - 1 = p - 3 := by
  rw [sub_one_sub_one (p - 1)]; exact sub_sub p 1 2

theorem add_one_add_one (p : Byte) : p + 1 + 1 = p + 2 := add_assoc p 1 1

theorem add_one_add_one_add_one (p : Byte) : p + 1 + 1 + 1 = p + 3 := by
  rw [add_one_add_one (p + 1)]; exact add_assoc p 1 2

/-! ## The shared operations as record updates -/

theorem State.push16_eq (s : State) (w : Addr) :
    s.push16 w = { s with sp := s.sp - 2, mem := (s.push16 w).mem } := by
  rw [← sub_one_sub_one]
  rfl

theorem State.pulled16_eq (s : State) :
    s.pulled16 = wordOf (s.load (stackByte (s.sp + 2))) (s.load (stackByte (s.sp + 1))) := by
  rw [← add_one_add_one]
  rfl

theorem State.pull16_eq (s : State) : s.pull16 = { s with sp := s.sp + 2 } := by
  rw [← add_one_add_one]
  rfl

/-- An entry through a vector outside the stack page (60_exceptions.md R256): all it leaves but the pushed bytes. -/
theorem State.enter_eq (s : State) {vector : Addr} (h : hiByte vector ≠ 0x01) (h' : hiByte (vector + 1) ≠ 0x01)
    (ret : Addr) (b : Bool) :
    s.enter ret b vector =
      { s with
        sp := s.sp - 3, p := { s.p with i := true }, pc := s.load16 vector, mem := (s.enter ret b vector).mem } := by
  rw [← sub_one_sub_one_sub_one]
  apply State.ext_fields <;> simp [State.enter_pc s h h']

/-- The bytes an entry pushes, in a state with the memory it leaves. -/
theorem pushedFrame_of_enter {s t : State} (hwf : s.mem.wf = true) (ret : Addr) (b : Bool) (vector : Addr)
    (hmem : t.mem = (s.enter ret b vector).mem) : PushedFrame s t ret b := by
  have hload (addr : Addr) : t.load addr = (s.enter ret b vector).load addr :=
    congrArg (Memory.read · addr.toNat) hmem
  simp only [PushedFrame, hload, ← sub_one_sub_one]
  exact ⟨State.load_enter_hi hwf ret b vector, State.load_enter_lo hwf ret b vector,
    State.load_enter_status hwf ret b vector, fun _ h0 h1 h2 => State.load_enter_other s h0 h1 h2 ret b vector⟩

theorem stackedBytesOnly_of_pushedFrame {s t : State} {ret : Addr} {b : Bool} (h : PushedFrame s t ret b) :
    StackedBytesOnly s t := by
  obtain ⟨-, -, -, hother⟩ := h
  exact hother

/-- An entry and its 7 cycles, as NMI service, IRQ service and BRK have it (60_exceptions.md R256). -/
theorem enter_addCycles_pushesAndVectors {s : State} (hwf : s.mem.wf = true) (ret : Addr) (b : Bool) {vector : Addr}
    (h : hiByte vector ≠ 0x01) (h' : hiByte (vector + 1) ≠ 0x01) :
    let t := (s.enter ret b vector).addCycles 7
    PushedFrame s t ret b ∧
      t = { s with
        sp := s.sp - 3, p := { s.p with i := true }, pc := s.load16 vector, mem := t.mem, cycles := s.cycles + 7 } := by
  refine ⟨pushedFrame_of_enter hwf ret b vector (State.addCycles_mem _ 7), ?_⟩
  conv_lhs => rw [State.enter_eq s h h']
  rfl

/-! ## The five instructions -/

/-- The word an indirect JMP reads (30_encoding.md R101). -/
theorem eaInd_eq (wrap : Bool) (ptr : Addr) (s : State) :
    eaInd wrap ptr s =
      wordOf (s.load (if wrap = true then wordOf (hiByte ptr) (loByte ptr + 1) else ptr + 1)) (s.load ptr) := by
  have hhigh := indHighAddr_eq wrap (hiByte ptr) (loByte ptr)
  rw [wordOf_hiByte_loByte] at hhigh
  rw [eaInd, hhigh]

/-- Settles O48: the indirect form jumps to the word its pointer designates. -/
theorem jmpSetsPc : Obligations.JmpSetsPc := by
  refine fun s w => ⟨⟨rfl, exec_jmpAbs s w⟩, rfl, ?_⟩
  rw [exec_jmpInd, eaInd_eq]
  rfl

/-- Settles O49: JSR is two pushes and a jump. -/
theorem jsrPushesReturnAddress : Obligations.JsrPushesReturnAddress := by
  intro s w hwf
  refine ⟨rfl, _, exec_jsr s w, ?_⟩
  simp only [State.load_addCycles, State.load_setPc]
  refine ⟨State.load_push16_hi hwf (s.pc + 2), State.load_push16_lo hwf (s.pc + 2),
    fun _ h0 h1 => State.load_push16_other s h0 h1 (s.pc + 2), ?_⟩
  conv_lhs => rw [State.push16_eq]
  rfl

/-- Settles O50: RTS is two pulls, and a jump one past the word pulled. -/
theorem rtsPullsPcPlusOne : Obligations.RtsPullsPcPlusOne := by
  refine fun s => ⟨rfl, ?_⟩
  rw [exec_rts, State.pull16_eq, State.pulled16_eq]
  rfl

/-- Settles O52: RTI is the return from an interrupt. -/
theorem rtiPullsStatusThenPc : Obligations.RtiPullsStatusThenPc := by
  refine fun s => ⟨rfl, ?_⟩
  rw [exec_rti, State.returnFromInterrupt_eq, add_one_add_one_add_one, add_one_add_one]
  rfl

/-- Settles O53: BRK is the shared entry, with bit 4 of the pushed status set. -/
theorem brkEntersIrqVector : Obligations.BrkEntersIrqVector :=
  fun s hwf => ⟨rfl, _, exec_brk s, enter_addCycles_pushesAndVectors hwf (s.pc + 2) true (by decide) (by decide)⟩

end Sys2Proof.Machine
end

section
/-! SUPPORT. The branches, the flag instructions and NOP (49_branch_flags_nop.md R230 to R247). -/

namespace Sys2Proof.Machine

open Sys2Proof.Claims

/-! ## The eight branches -/

/-- The displacement added modulo 2^16 is the displacement added on integers (30_encoding.md R104). -/
theorem eaRel_eq_branchTarget (disp : Byte) (s : State) : eaRel disp s = branchTarget s disp := by
  have hrel := eaRel_toNat disp s
  apply BitVec.eq_of_toNat_eq
  rw [branchTarget, BitVec.toNat_ofInt]
  omega

theorem pagePenalty_decide_not (same : Prop) [Decidable same] :
    pagePenalty (decide ¬same) = if same then 0 else 1 := by
  by_cases h : same <;> simp [pagePenalty, h]

theorem branch_taken (disp : Byte) (s : State) :
    branch true disp s = .next { s with
      pc := branchTarget s disp
      cycles := s.cycles + 2 + 1 + (if hiByte (branchTarget s disp) = hiByte (s.pc + 2) then 0 else 1) } := by
  rw [← eaRel_eq_branchTarget, ← pagePenalty_decide_not, add_assoc s.cycles 2 1, add_assoc s.cycles (2 + 1)]
  rfl

/-- The rule of an instruction that runs `Branch(cond)` on a condition of the status. -/
theorem branchRule_of_exec {make : Byte → Instr} {opcode : Byte} {cond : Status → Bool}
    (hbytes : ∀ d, encode (make d) = [opcode, d]) (hexec : ∀ d s, exec (make d) s = branch (cond s.p) d s) :
    BranchRule make opcode cond := by
  refine fun s d => ⟨hbytes d, fun hcond => ?taken, fun hcond => ?notTaken⟩
  case taken => rw [hexec, hcond, branch_taken]
  case notTaken => rw [hexec, hcond]; rfl

/-- Settles O54: each of the eight is `Branch` on its flag condition. -/
theorem branchesTestOneFlag : Obligations.BranchesTestOneFlag := by
  refine ⟨?bcc, ?bcs, ?beq, ?bne, ?bmi, ?bpl, ?bvc, ?bvs⟩
  all_goals exact branchRule_of_exec (fun _ => rfl) (fun _ _ => rfl)

/-! ## The flag instructions and NOP -/

/-- Settles O55: each writes its flag, and NOP nothing, before PC and the counter advance. -/
theorem flagInstructionsWriteOneFlag : Obligations.FlagInstructionsWriteOneFlag :=
  ⟨impliedRule_of_exec rfl exec_clc (fun _ => rfl) (fun _ => rfl),
    impliedRule_of_exec rfl exec_sec (fun _ => rfl) (fun _ => rfl),
    impliedRule_of_exec rfl exec_cli (fun _ => rfl) (fun _ => rfl),
    impliedRule_of_exec rfl exec_sei (fun _ => rfl) (fun _ => rfl),
    impliedRule_of_exec rfl exec_cld (fun _ => rfl) (fun _ => rfl),
    impliedRule_of_exec rfl exec_sed (fun _ => rfl) (fun _ => rfl),
    impliedRule_of_exec rfl exec_clv (fun _ => rfl) (fun _ => rfl),
    impliedRule_of_exec rfl exec_nop (fun _ => rfl) (fun _ => rfl)⟩

/-- With no NMI pending and I set, a running block executes, an IRQ pending or not (60_exceptions.md R255). -/
theorem State.executes_of_masked {s : State} (hrun : s.running) (hnmi : s.nmiPending = false) (hi : s.p.i = true) :
    s.executes :=
  ⟨hrun, by simp [State.interruptDue, hnmi, hi]⟩

/-- Settles O13: the step after CLI finds I clear, and the step after SEI finds it set. -/
theorem maskChangesActAtNextBoundary : Obligations.MaskChangesActAtNextBoundary :=
  fun s hrun hnmi hirq =>
    ⟨⟨_, exec_cli s, step_of_irq hrun hnmi hirq rfl⟩,
      ⟨_, exec_sei s, step_executes (State.executes_of_masked hrun hnmi rfl)⟩⟩

end Sys2Proof.Machine
end

section
/-! SUPPORT. Interrupt entry and return, faults and Reset (60_exceptions.md, 70_reset_and_hazards.md R290). -/

namespace Sys2Proof.Machine

open Sys2Proof.Claims

variable {s t : State}

/-! ## Interrupt entry (R254, R255, R256) -/

/-- Settles O10: NMI service is the shared entry, with the request cleared. -/
theorem nmiEntryPushesAndVectors : Obligations.NmiEntryPushesAndVectors :=
  fun s hwf hrun hnmi => ⟨_, step_of_nmi hrun hnmi,
    enter_addCycles_pushesAndVectors (s := { s with nmiPending := false }) hwf s.pc false (by decide) (by decide)⟩

/-- Settles O11: IRQ service is the shared entry, with the request cleared. -/
theorem irqEntryPushesAndVectors : Obligations.IrqEntryPushesAndVectors :=
  fun s hwf hrun hnmi hirq hi => ⟨_, step_of_irq hrun hnmi hirq hi,
    enter_addCycles_pushesAndVectors (s := { s with irqPending := false }) hwf s.pc false (by decide) (by decide)⟩

/-- What `ExecuteOne()` can do (30_encoding.md R81): an instruction, or the fault of R121. -/
theorem State.executeOne_cases (h : s.executeOne = .next t) :
    (∃ i, exec i s = .next t) ∨ t = s.raise .invalidOpcode := by
  cases hdec : decode s.fetchBytes with
  | instr i rest => exact .inl ⟨i, (State.executeOne_instr hdec).symm.trans h⟩
  | error e => cases (State.executeOne_error hdec).symm.trans h; exact .inr rfl

theorem State.executeOne_irqPending (h : s.executeOne = .next t) : t.irqPending = s.irqPending := by
  obtain ⟨i, hexec⟩ | rfl := State.executeOne_cases h
  · obtain ⟨hirq, -, -⟩ := instructionsLeavePendingAndBreak i s t hexec
    exact hirq
  · rfl

/-- Settles O12: the masked request is not due, and neither an instruction nor a fault clears it. -/
theorem maskedIrqStaysPending : Obligations.MaskedIrqStaysPending := by
  intro s hrun hnmi hirq hi
  obtain ⟨t, ht⟩ := s.executeOne_next
  have hstep : step s = .next t := (step_executes (State.executes_of_masked hrun hnmi hi)).trans ht
  exact ⟨t, hstep, ht, (State.executeOne_irqPending ht).trans hirq⟩

/-! ## Return from an entry (R260) -/

/-- The pulls of the return find what the entry pushed: together they write the three stack bytes and PC. -/
theorem State.returnFromInterrupt_enter (hwf : s.mem.wf = true) (ret : Addr) (b : Bool) (vector : Addr) :
    (s.enter ret b vector).returnFromInterrupt = { s with pc := ret, mem := (s.enter ret b vector).mem } := by
  have h1 : s.sp - 1 - 1 - 1 + 1 = s.sp - 1 - 1 := sub_add_cancel _ _
  have h2 : s.sp - 1 - 1 + 1 = s.sp - 1 := sub_add_cancel _ _
  have h3 : s.sp - 1 + 1 = s.sp := sub_add_cancel _ _
  rw [State.returnFromInterrupt_eq, State.enter_sp, h1, h2, h3, State.load_enter_status hwf,
    State.load_enter_lo hwf, State.load_enter_hi hwf, wordOf_hiByte_loByte, Status.writeP_pushed]
  apply State.ext_fields <;> simp

theorem State.returnFromInterrupt_addCycles (s : State) (n : Cycles) :
    (s.addCycles n).returnFromInterrupt = s.returnFromInterrupt.addCycles n := rfl

theorem State.addCycles_addCycles (s : State) (m n : Cycles) : (s.addCycles m).addCycles n = s.addCycles (m + n) := by
  rw [State.addCycles, State.addCycles, State.addCycles, ← add_assoc]

/-- RTI in the state an entry and its 7 cycles leave (60_exceptions.md R260). -/
theorem exec_rti_enter (hwf : s.mem.wf = true) (ret : Addr) (b : Bool) (vector : Addr) :
    ∃ t, exec .rti ((s.enter ret b vector).addCycles 7) = .next t ∧ StackedBytesOnly s t ∧
      t = { s with pc := ret, mem := t.mem, cycles := s.cycles + 13 } := by
  have hexec : exec .rti ((s.enter ret b vector).addCycles 7) =
      .next { s with pc := ret, mem := (s.enter ret b vector).mem, cycles := s.cycles + 13 } := by
    rw [exec_rti, State.returnFromInterrupt_addCycles, State.returnFromInterrupt_enter hwf, State.addCycles_addCycles]
    rfl
  exact ⟨_, hexec, stackedBytesOnly_of_pushedFrame (pushedFrame_of_enter hwf ret b vector rfl), rfl⟩

/-- Settles O15: NMI service, IRQ service and BRK are each an entry and 7 cycles, which RTI undoes. -/
theorem rtiResumesWhatWasInterrupted : Obligations.RtiResumesWhatWasInterrupted := by
  refine fun s hwf => ⟨?nmi, ?irq, ?brk⟩
  case nmi => exact exec_rti_enter (s := { s with nmiPending := false }) hwf s.pc false nmiVector
  case irq => exact exec_rti_enter (s := { s with irqPending := false }) hwf s.pc false irqVector
  case brk =>
    obtain ⟨t, hrti, hmem, heq⟩ := exec_rti_enter hwf (s.pc + 2) true irqVector
    exact ⟨_, t, exec_brk s, hrti, hmem, heq⟩

/-! ## Faults (30_encoding.md R121, R251, R270) -/

theorem exec_next_fault_eq (i : Instr) (s : State) : ∃ t, exec i s = .next t ∧ t.fault = s.fault := by
  obtain ⟨u, pc, cost, hexec, he⟩ := exec_completes i s
  obtain ⟨-, -, hfault, -⟩ := he.pending_fault_break_eq
  exact ⟨_, hexec, hfault⟩

theorem State.serviceNmi_fault (s : State) : s.serviceNmi.fault = s.fault := by
  simp [State.serviceNmi, State.enterInterrupt]

theorem State.serviceIrq_fault (s : State) : s.serviceIrq.fault = s.fault := by
  simp [State.serviceIrq, State.enterInterrupt]

/-- A step that leaves a fault record raised InvalidOpcode at a byte with no row. -/
theorem raise_of_step_fault {r : FaultRecord} (ht : step s = .next t) (hr : t.fault = some r) :
    rowOf (s.load s.pc) = none ∧ t = s.raise .invalidOpcode := by
  obtain ⟨hf, hcases⟩ := step_cases ht
  have hchanged : t.fault ≠ s.fault := by simp [hr, hf]
  obtain ⟨-, rfl⟩ | ⟨-, -, -, rfl⟩ | ⟨-, i, rest, -, hexec⟩ | ⟨-, e, hdec, rfl⟩ := hcases
  · exact absurd s.serviceNmi_fault hchanged
  · exact absurd s.serviceIrq_fault hchanged
  · obtain ⟨u, hu, hfault⟩ := exec_next_fault_eq i s
    cases hu.symm.trans hexec
    exact absurd hfault hchanged
  · exact ⟨State.rowOf_of_decode_error hdec, rfl⟩

/-- Settles O23: no effect writes the fault record, and a step records only what `raise` does. -/
theorem onlyInvalidOpcodeIsRaised : Obligations.OnlyInvalidOpcodeIsRaised := by
  refine ⟨exec_next_fault_eq, fun s t r _ ht hr => ?_⟩
  obtain ⟨hrow, rfl⟩ := raise_of_step_fault ht hr
  cases hr
  exact ⟨rfl, rfl, rfl, (rowOf_eq_none_iff _).1 hrow⟩

/-! ## Reset (70_reset_and_hazards.md R290) -/

/-- Settles O17: the byte of the reset status is 0x36, and the rest is Reset's record update. -/
theorem resetReinitialises : Obligations.ResetReinitialises :=
  fun s => ⟨_, rfl, (by decide : Status.reset.toByte = 0x36), State.doReset_eq s⟩

end Sys2Proof.Machine
end
